-- ==== Sys2Proof/Word.lean ====
section
/-! DEFINITION. The words of the PPFC: a byte is 8 bits (00_scope.md R7), a package id or a year 16 bits,
an event's data value 32 bits, little-endian on the wire (R6). Every field value is unsigned (R7). -/

namespace Sys2Proof

/-- 00_scope.md R6, R7: a byte, 0x00 to 0xFF. -/
abbrev Byte := BitVec 8

/-- 00_scope.md R6: a package id, the Init reserved field, a year. -/
abbrev Half := BitVec 16

/-- 00_scope.md R6: an event's data value. -/
abbrev Word := BitVec 32

/-- 10_state.md R19, R27: four bytes, the payload of Status or the payload header of Dump. -/
abbrev Quad := Vector Byte 4

/-- 10_state.md R19, R27: the 16 bytes of one Dump event record. -/
abbrev RawEvent := Vector Byte 16

end Sys2Proof
end

