-- ==== Sys2Proof/Machine/Records.lean ====
section
/-! DEFINITION. What the ports carry out of the block: the enumerations of 10_state.md R21 with their codes,
event records (R29), result records (R22 to R24, R28, R30), and the error causes of 60_exceptions.md R121. -/

namespace Sys2Proof.Machine

/-- 10_state.md R21: the kind of a result record. -/
inductive Kind where
  | ack | status | dump | nak | unrecognized | transportError
deriving DecidableEq, Repr, Inhabited

/-- 10_state.md R21: the code of a record kind. -/
def Kind.code : Kind → Nat
  | .ack => 0
  | .status => 1
  | .dump => 2
  | .nak => 3
  | .unrecognized => 4
  | .transportError => 5

/-- 10_state.md R21, R26: the flag `outcome` of a result record. -/
inductive ChkOutcome where
  | pass | fail | notChecked
deriving DecidableEq, Repr, Inhabited

/-- 10_state.md R21: the code of an outcome. -/
def ChkOutcome.code : ChkOutcome → Nat
  | .pass => 0
  | .fail => 1
  | .notChecked => 2

/-- 10_state.md R21: the class of an inbound Status frame's status code. -/
inductive StatusClass where
  | uninitialized | tracking | error
deriving DecidableEq, Repr, Inhabited

/-- 10_state.md R21: the code of a status class. -/
def StatusClass.code : StatusClass → Nat
  | .uninitialized => 0
  | .tracking => 1
  | .error => 2

/-- 10_state.md R21: the kind of a Dump event. -/
inductive EventKind where
  | drop | flip
deriving DecidableEq, Repr, Inhabited

/-- 10_state.md R21: the code of an event kind. -/
def EventKind.code : EventKind → Nat
  | .drop => 0
  | .flip => 1

/-- 10_state.md R21: the read step in which a transport read failed. -/
inductive Phase where
  | header | payload | events | trailer
deriving DecidableEq, Repr, Inhabited

/-- 10_state.md R21: the code of a phase. -/
def Phase.code : Phase → Nat
  | .header => 0
  | .payload => 1
  | .events => 2
  | .trailer => 3

/-- 10_state.md R29: a decoded event record. -/
structure EventRecord where
  raw : RawEvent
  flag : Byte
  eventKind : EventKind
  year : Half
  month : Byte
  day : Byte
  weekday : Byte
  hour : Byte
  minute : Byte
  second : Byte
  data : Word
deriving DecidableEq, Repr

/-- 10_state.md R28: a result record is exactly one of the six kinds, with the fields of R22 (ack), R23 (status),
R24 (dump, nak, unrecognized) and R30 (transportError). -/
inductive Record where
  | ack (type len rxChk calcChk : Byte) (outcome : ChkOutcome)
  | status (type len : Byte) (payload : Quad) (pkgId : Half) (statusCode : Byte) (statusClass : StatusClass)
      (rxChk calcChk : Byte) (outcome : ChkOutcome)
  | dump (type len : Byte) (payload : Quad) (pkgId : Half) (count : Byte) (events : List EventRecord)
      (rxChk calcChk : Byte) (outcome : ChkOutcome)
  | nak (type len rxChk calcChk : Byte) (outcome : ChkOutcome)
  | unrecognized (type len : Byte) (outcome : ChkOutcome)
  | transportError (phase : Phase) (nread : Nat)
deriving DecidableEq, Repr

/-- 10_state.md R21, R28: the field `kind` of a record. -/
def Record.kind : Record → Kind
  | .ack .. => .ack
  | .status .. => .status
  | .dump .. => .dump
  | .nak .. => .nak
  | .unrecognized .. => .unrecognized
  | .transportError .. => .transportError

/-- 10_state.md R22 to R24: the field `outcome`; a TRANSPORT_ERROR record has none (R30). -/
def Record.outcome : Record → Option ChkOutcome
  | .ack _ _ _ _ o => some o
  | .status _ _ _ _ _ _ _ _ o => some o
  | .dump _ _ _ _ _ _ _ _ o => some o
  | .nak _ _ _ _ o => some o
  | .unrecognized _ _ o => some o
  | .transportError _ _ => none

/-- 60_exceptions.md R121: the error classes. -/
inductive Cause where
  | transportRx | transportTx | checksumMismatch | unrecognizedFrameType | protocolShape
deriving DecidableEq, Repr, Inhabited

/-- 60_exceptions.md R121: the cause codes. -/
def Cause.code : Cause → Nat
  | .transportRx => 1
  | .transportTx => 2
  | .checksumMismatch => 3
  | .unrecognizedFrameType => 4
  | .protocolShape => 5

/-- 00_scope.md R8: what a TransportError is raised with: on the RX side the phase and the bytes of the frame
consumed (60_exceptions.md R123), on the TX side the bytes of the frame sent (41_encoder.md R92). -/
inductive ErrorInfo where
  | rx (phase : Phase) (nread : Nat)
  | tx (sent : Nat)
deriving DecidableEq, Repr, Inhabited

/-- 60_exceptions.md R121: which classes are fatal to the agent that raises them; class 5 is never raised. -/
def Cause.fatal : Cause → Bool
  | .transportRx => true
  | .transportTx => true
  | .checksumMismatch => false
  | .unrecognizedFrameType => false
  | .protocolShape => false

/-- 60_exceptions.md R121: the error class a result record reports, if it reports one. -/
def Record.cause (r : Record) : Option Cause :=
  match r.kind with
  | .transportError => some .transportRx
  | .unrecognized => some .unrecognizedFrameType
  | .ack => if r.outcome = some .fail then some .checksumMismatch else none
  | .status => if r.outcome = some .fail then some .checksumMismatch else none
  | .dump => if r.outcome = some .fail then some .checksumMismatch else none
  | .nak => if r.outcome = some .fail then some .checksumMismatch else none

end Sys2Proof.Machine
end

