-- ==== Sys2Proof/Machine/Flags.lean ====
section
/-! DEFINITION. The checksum of 40_checksum.md and the one flag computed from it, the `outcome` of a result
record (10_state.md R26). -/

namespace Sys2Proof.Machine

/-- 40_checksum.md R78: the 8-bit XOR of a byte sequence, seeded with its first byte. On the empty sequence,
which no rule computes, the 0x00 that R79 offers for totality. -/
def compute : List Byte → Byte
  | [] => 0x00#8
  | b :: bs => bs.foldl (· ^^^ ·) b

/-- 40_checksum.md R82: the outcome of comparing a trailer with the expected checksum. -/
def checkTrailer (trailer expected : Byte) : ChkOutcome :=
  if trailer = expected then .pass else .fail

end Sys2Proof.Machine
end

