-- ==== Sys2Proof/Machine/Operands.lean ====
section
/-! DEFINITION. How fields are put together from whole bytes and taken apart again (30_encoding.md R64), the value
maps of R68 and R69, and the decoding of one event record (42_decoder.md R101). -/

namespace Sys2Proof.Machine

/-- 00_scope.md R7: two bytes as a little-endian 16-bit value. -/
def le16 (lo hi : Byte) : Half := lo.zeroExtend 16 ||| (hi.zeroExtend 16 <<< 8)

/-- 00_scope.md R7: four bytes as a little-endian 32-bit value. -/
def le32 (b0 b1 b2 b3 : Byte) : Word :=
  b0.zeroExtend 32 ||| (b1.zeroExtend 32 <<< 8) ||| (b2.zeroExtend 32 <<< 16) ||| (b3.zeroExtend 32 <<< 24)

/-- 00_scope.md R7: the low byte of a 16-bit value, v[7:0]. -/
def loByte (v : Half) : Byte := v.extractLsb' 0 8

/-- 00_scope.md R7: the high byte of a 16-bit value, v[15:8]. -/
def hiByte (v : Half) : Byte := v.extractLsb' 8 8

/-- 00_scope.md R7: a 16-bit value as two bytes, the low one first on the wire. -/
def bytes16le (v : Half) : List Byte := [loByte v, hiByte v]

/-- 30_encoding.md R68: the class of a status code. -/
def classOf (code : Byte) : StatusClass :=
  if code = 0x00#8 then .uninitialized else if code = 0x01#8 then .tracking else .error

/-- 30_encoding.md R69: the kind of an event flag. -/
def kindOf (flag : Byte) : EventKind :=
  if flag = 0x00#8 then .drop else .flip

/-- 42_decoder.md R101: the decoded form of a 16-byte record; day stands before weekday (90_conflicts.md C1). -/
def decodeEvent (r : RawEvent) : EventRecord where
  raw := r
  flag := r[0]
  eventKind := kindOf r[0]
  year := le16 r[4] r[5]
  month := r[6]
  day := r[7]
  weekday := r[8]
  hour := r[9]
  minute := r[10]
  second := r[11]
  data := le32 r[12] r[13] r[14] r[15]

/-- 42_decoder.md R105, R106: the package id of a Status or Dump payload. -/
def pkgIdOf (q : Quad) : Half := le16 q[0] q[1]

end Sys2Proof.Machine
end

