-- ==== Sys2Proof/Syntax.lean ====
section
/-! DEFINITION. The instructions, one constructor per row of spec/opcode_table.json, the command requests of
10_state.md R31, the answers of TRANSPORT (20_memory.md R37, R38), and the turns the agents take. -/

namespace Sys2Proof

/-- 10_state.md R31: the operands of ENC.INIT. No value is range-checked. -/
structure InitFields where
  pkgId : Half
  reserved : Half
  year : Half
  month : Byte
  day : Byte
  weekday : Byte
  hour : Byte
  minute : Byte
  second : Byte
  carrierCode : Byte
  userCode : Byte
  trackMode : Byte
  trackLen : Byte
  track : List Byte
deriving DecidableEq, Repr, Inhabited

/-- The rows of spec/opcode_table.json, with the operands their rules give them. -/
inductive Instr where
  /-- ENC.STATUS, 41_encoder.md R89. -/
  | encStatus
  /-- ENC.INIT, 41_encoder.md R91. -/
  | encInit (f : InitFields)
  /-- ENC.DUMP, 41_encoder.md R90: the access code. -/
  | encDump (code : Byte)
  /-- DEC.ACK, 42_decoder.md R104: the length byte and the trailer. -/
  | decAck (len ck : Byte)
  /-- DEC.STATUS, 42_decoder.md R105: the length byte, the payload and the trailer. -/
  | decStatus (len : Byte) (q : Quad) (ck : Byte)
  /-- DEC.DUMP, 42_decoder.md R106: the length byte, the payload header, the event records and the trailer. -/
  | decDump (len : Byte) (q : Quad) (recs : List RawEvent) (ck : Byte)
  /-- DEC.NAK, 42_decoder.md R107: the length byte and the trailer. -/
  | decNak (len ck : Byte)
  /-- DEC.UNRECOGNIZED, 42_decoder.md R108: the two header bytes. -/
  | decUnrecognized (type len : Byte)
  /-- CHK, 40_checksum.md R78: the byte sequence. -/
  | chk (s : List Byte)
  /-- HOST.QUIT, 43_session_control.md R114. -/
  | hostQuit
deriving DecidableEq, Repr, Inhabited

/-- 10_state.md R31: a command request on CMD is exactly one of these. -/
inductive Request where
  | status
  | dump (code : Byte)
  | init (f : InitFields)
  | quit
deriving DecidableEq, Repr, Inhabited

/-- The instruction a command request asks for. -/
def Request.instr : Request → Instr
  | .status => .encStatus
  | .dump code => .encDump code
  | .init f => .encInit f
  | .quit => .hostQuit

/-- The command request an instruction is, if HOST can offer it on CMD. -/
def Instr.request : Instr → Option Request
  | .encStatus => some .status
  | .encInit f => some (.init f)
  | .encDump code => some (.dump code)
  | .decAck _ _ => none
  | .decStatus _ _ _ => none
  | .decDump _ _ _ _ => none
  | .decNak _ _ => none
  | .decUnrecognized _ _ => none
  | .chk _ => none
  | .hostQuit => some .quit

/-- 20_memory.md R37: what TRANSPORT answers to RxByte(). -/
inductive RxAnswer where
  | byte (b : Byte)
  | err
deriving DecidableEq, Repr, Inhabited

/-- 20_memory.md R38: what TRANSPORT answers to TxByte(b). -/
inductive TxAnswer where
  | accept
  | err
deriving DecidableEq, Repr, Inhabited

/-- One turn of the schedule. But for `chk` it is one atomic step of 00_scope.md R9: which agent moves next, with what the collaborator puts
on the port (10_state.md R14). A transfer is one byte, one record or one request, and happens only if the block's side of
the handshake is ready; else nothing does. -/
inductive Turn where
  /-- DEC's frame-boundary check, 43_session_control.md R116. -/
  | boundary
  /-- ENC's check, 43_session_control.md R115. -/
  | encCheck
  /-- HOST offers a request on CMD, 41_encoder.md R85. -/
  | cmd (r : Request)
  /-- TRANSPORT answers ENC's TxByte, 41_encoder.md R92. -/
  | tx (a : TxAnswer)
  /-- TRANSPORT offers one answer on RXD, 20_memory.md R37. -/
  | rx (a : RxAnswer)
  /-- HOST accepts the waiting record on EVT, 20_memory.md R39. -/
  | evt
  /-- CHK is evaluated on a byte sequence, 40_checksum.md R78. DESIGN CHOICE (log entry 13): the spec gives CHK no step
  (00_scope.md R9) and no agent (10_state.md R13); the model makes its evaluation a turn of no agent, which can come
  anywhere in the schedule. -/
  | chk (s : List Byte)
  /-- HOST drives RESET, 70_reset_and_hazards.md R138. -/
  | reset
deriving DecidableEq, Repr, Inhabited

/-- The line 'RX <byte> <byte> ...' of 30_encoding.md R77: TRANSPORT offers these bytes on RXD in order, one to a turn. -/
def rxLine (bs : List Byte) : List Turn := bs.map fun b => .rx (.byte b)

end Sys2Proof
end

