-- ==== Sys2Proof/Config.lean ====
section
/-! DEFINITION. What an implementation of the PPFC fixes, and the values the spec leaves open (00_scope.md R6). -/

namespace Sys2Proof

/-- 00_scope.md R6, 30_encoding.md R75: how ENC fills the Init length byte. -/
inductive InitLenMode where
  | fixed | derived
deriving DecidableEq, Repr, Inhabited

/-- How far `MAX_TRACK_LEN` lies above 18: open in the spec, so a constant with no body (log entry 4). -/
opaque Config.maxTrackExtra : Nat

/-- 00_scope.md R6: the parameter MAX_TRACK_LEN, a natural number, at least 18. -/
def Config.maxTrackLen : Nat := Config.maxTrackExtra + 18

/-- Which turn comes next once the schedule held in the state is used up: the free choice of the schedule
(00_scope.md R9, 43_session_control.md R118), a constant with no body applied to a counter (log entry 1). -/
opaque Config.freeTurn : Nat → Turn

end Sys2Proof
end

