-- ==== Sys2Proof/Machine/State.lean ====
section
/-! DEFINITION. The state of the PPFC (10_state.md R16 to R20, R25), the reasons a step can stop, and the state after
reset (R34). -/

namespace Sys2Proof.Machine

/-- 10_state.md R18: ENC's sequencer. -/
inductive TxState where
  /-- no frame in progress -/
  | idle
  /-- sending `tx_buf[tx_i]` and the bytes after it -/
  | send
  /-- the session is over -/
  | closed
  /-- a transport write failed -/
  | failed
deriving DecidableEq, Repr, Inhabited

/-- 10_state.md R20: DEC's sequencer. -/
inductive RxState where
  /-- at a frame boundary -/
  | idle
  /-- reading header byte `rx_idx` -/
  | hdr
  /-- reading payload byte `rx_idx` -/
  | pay
  /-- reading byte `rx_idx` of Dump record number `rx_evi` -/
  | evt
  /-- reading the trailer byte -/
  | trailer
  /-- `rx_out` holds a frame's result -/
  | emit
  /-- `rx_out` holds a TransportError record -/
  | emitErr
  /-- `running` was 0 at a frame boundary -/
  | stopped
  /-- a TransportError record was handed over -/
  | failed
deriving DecidableEq, Repr, Inhabited

/-- Why a step of the model stops the machine. No rule of the spec stops it: transport errors are next states
(60_exceptions.md R123, R124). -/
inductive Fault where
  /-- Raised by DEC's trailer step (42_decoder.md R102) when `rx_type` is none of the four types that have a trailer.
  No run reaches such a state. Safe: the spec gives the step no case there (log entry 10). -/
  | noTrailerType
deriving DecidableEq, Repr, Inhabited

/-- Why the model gives an instruction no meaning. -/
inductive Refusal where
  /-- Raised by exec's arm of an instruction that has no meaning yet. Safe. -/
  | notModelled (mnemonic : String)
  /-- Raised by ENC.INIT when its track is longer than MAX_TRACK_LEN: the run is refused, as 41_encoder.md R87 says.
  Safe. -/
  | trackTooLong
  /-- Raised by DEC.DUMP and DEC.UNRECOGNIZED on a term that is no frame of 30_encoding.md R63 or R65: a count of
  records other than the count byte, or a recognized type byte. Safe (log entry 10). -/
  | notAFrame
deriving DecidableEq, Repr, Inhabited

/-- The machine. The fields down to `rxOut` are the registers of 10_state.md R17, R19 and R25; `tx` and `evt` are the
TX stream and the records handed over (20_memory.md R35); the rest is the model's own. -/
structure State where
  /-- register 0, the shared session flag (R25, R26) -/
  running : Bool
  /-- register 1, ENC's sequencer (R18, R25) -/
  txState : TxState
  /-- the frame being sent (R17) -/
  txBuf : List Byte
  /-- the number of bytes of `txBuf` (R17) -/
  txN : Nat
  /-- the number of bytes of `txBuf` already sent (R17) -/
  txI : Nat
  /-- register 2, DEC's sequencer (R20, R25) -/
  rxState : RxState
  /-- the frame's type byte (R19) -/
  rxType : Byte
  /-- the frame's length byte (R19) -/
  rxLen : Byte
  /-- the running checksum, trailer excluded (R19) -/
  rxAcc : Byte
  /-- the byte index within the current read group (R19) -/
  rxIdx : Nat
  /-- the payload of Status, or the payload header of Dump (R19, R27) -/
  rxHdr : Quad
  /-- the Dump event count (R19) -/
  rxCnt : Byte
  /-- the number of Dump records completed (R19) -/
  rxEvi : Nat
  /-- the Dump record being read (R19, R27) -/
  rxRec : RawEvent
  /-- the event records decoded so far (R19, R27) -/
  rxEvents : List EventRecord
  /-- the received trailer (R19) -/
  rxChk : Byte
  /-- the number of bytes of the current frame consumed so far (R19) -/
  rxNread : Nat
  /-- the record waiting on EVT (R19) -/
  rxOut : Option Record
  /-- the TX stream: the bytes TRANSPORT accepted, first one first (20_memory.md R38) -/
  tx : List Byte
  /-- the records HOST accepted on EVT, first one first (20_memory.md R39) -/
  evt : List Record
  /-- where CHK leaves its result; the model's own (log entry 7) -/
  chkOut : Option Byte
  /-- the parameter INIT_LEN_MODE (00_scope.md R6; log entry 5) -/
  initLenMode : InitLenMode
  /-- the turns already chosen, next one first; the model's own (log entry 1) -/
  sched : List Turn
  /-- how many turns the free choice has given; the model's own (log entry 1) -/
  tick : Nat
deriving DecidableEq, Repr

/-- 10_state.md R34, 70_reset_and_hazards.md R138: every register after reset, the streams empty. -/
def State.reset : State where
  running := true
  txState := .idle
  txBuf := []
  txN := 0
  txI := 0
  rxState := .idle
  rxType := 0x00#8
  rxLen := 0x00#8
  rxAcc := 0x00#8
  rxIdx := 0
  rxHdr := #v[0x00#8, 0x00#8, 0x00#8, 0x00#8]
  rxCnt := 0x00#8
  rxEvi := 0
  rxRec := Vector.replicate 16 0x00#8
  rxEvents := []
  rxChk := 0x00#8
  rxNread := 0
  rxOut := none
  tx := []
  evt := []
  chkOut := none
  initLenMode := .fixed
  sched := []
  tick := 0

end Sys2Proof.Machine
end

