-- ==== Sys2Proof/Machine/Ops.lean ====
section
/-! DEFINITION. The named operations over the state that the instructions and the sequencer steps share: the turn
schedule, the handshakes, the acceptance of a frame, taking a transport error and the hand-over after it, reset. -/

namespace Sys2Proof.Machine

/-- One step after another: the second runs where the first gives a next state. -/
def andThen (o : Host.Outcome State Fault Refusal) (f : State → Host.Outcome State Fault Refusal) :
    Host.Outcome State Fault Refusal :=
  match o with
  | .next s => f s
  | .fault r => .fault r
  | .refused r => .refused r

/-! ### The schedule (00_scope.md R9; log entry 1) -/

/-- The turn that comes next: the first one held in the state, else the free choice. -/
def State.nextTurn (s : State) : Turn :=
  match s.sched with
  | t :: _ => t
  | [] => Config.freeTurn s.tick

/-- The state with that turn taken off the schedule. -/
def State.dropTurn (s : State) : State :=
  match s.sched with
  | _ :: rest => { s with sched := rest }
  | [] => { s with tick := s.tick + 1 }

/-! ### ENC -/

/-- 41_encoder.md R85: ENC is ready on CMD. -/
def State.cmdReady (s : State) : Bool := s.txState == .idle && s.running

/-- 41_encoder.md R88: what the acceptance step writes. -/
def State.loadFrame (buf : List Byte) (s : State) : State :=
  { s with txBuf := buf, txN := buf.length, txI := 0, txState := .send }

/-- 41_encoder.md R85, R88: a frame request is accepted if ENC is ready; else HOST's offer waits. -/
def acceptFrame (buf : List Byte) (s : State) : State :=
  if s.cmdReady then s.loadFrame buf else s

/-- 41_encoder.md R92, answer Accept: byte `b` is appended to the TX stream (20_memory.md R38). -/
def State.sendByte (b : Byte) (s : State) : State :=
  { s with
    tx := s.tx ++ [b]
    txI := s.txI + 1
    txState := if s.txI + 1 = s.txN then .idle else s.txState }

/-! ### DEC, in a whole frame -/

/-- DEC asks for the first byte of a frame: the precondition of 42_decoder.md R97. -/
def State.atFrameStart (s : State) : Bool := s.rxState == .hdr && s.rxIdx == 0

/-- 42_decoder.md R97, R98: the registers after a frame's two header bytes. -/
def State.readHeader (t len : Byte) (s : State) : State :=
  { s with rxType := t, rxLen := len, rxAcc := compute [t, len], rxIdx := 1, rxNread := 2 }

/-- 42_decoder.md R99: the registers after the four payload bytes that follow. -/
def State.readPayload (q : Quad) (s : State) : State :=
  { s with rxHdr := q, rxAcc := s.rxAcc ^^^ compute q.toList, rxIdx := 3, rxNread := s.rxNread + 4 }

/-- 42_decoder.md R99, R100: the registers after a Dump's event records, `rx_cnt` of them. -/
def State.readRecords (recs : List RawEvent) (s : State) : State :=
  { s with
    rxCnt := s.rxHdr[2]
    rxEvi := recs.length
    rxEvents := recs.map decodeEvent
    rxRec := recs.getLastD s.rxRec
    rxAcc := s.rxAcc ^^^ compute (recs.flatMap fun r => r.toList)
    rxIdx := if recs.isEmpty then s.rxIdx else 0
    rxNread := s.rxNread + 16 * recs.length }

/-- 42_decoder.md R102: the registers after the trailer `ck`, the frame's record waiting on EVT. -/
def State.readTrailer (ck : Byte) (r : Record) (s : State) : State :=
  { s with rxChk := ck, rxNread := s.rxNread + 1, rxOut := some r, rxState := .emit }

/-- 42_decoder.md R98: a record waits on EVT after the header alone. -/
def State.waitRecord (r : Record) (s : State) : State :=
  { s with rxOut := some r, rxState := .emit }

/-! ### The frame boundary (43_session_control.md R116) -/

/-- DEC goes on to the next frame's header. -/
def State.enterHeader (s : State) : State :=
  { s with rxState := .hdr, rxIdx := 0, rxNread := 0 }

/-- DEC stops. -/
def State.stopDec (s : State) : State := { s with rxState := .stopped }

/-! ### The session -/

/-- 43_session_control.md R115: ENC closes. -/
def State.closeEnc (s : State) : State := { s with txState := .closed }

/-- 43_session_control.md R114: the session flag is cleared and ENC closes. -/
def State.quit (s : State) : State := { s with running := false, txState := .closed }

/-! ### Transport errors: taking one, and the hand-over after it -/

/-- 60_exceptions.md R123 and R124: the TransportError entry. On the RX side the record replaces the frame's own; on
the TX side `tx_buf`, `tx_n` and `tx_i` keep their values. Nothing returns from it but RESET (R129). -/
def raiseTransportError (info : ErrorInfo) (s : State) : State :=
  match info with
  | .rx ph nread => { s with rxOut := some (.transportError ph nread), running := false, rxState := .emitErr }
  | .tx _ => { s with running := false, txState := .failed }

/-- 42_decoder.md R103: HOST takes the frame's record; DEC is at the frame boundary. -/
def State.handOver (r : Record) (s : State) : State :=
  { s with evt := s.evt ++ [r], rxOut := none, rxState := .idle }

/-- 60_exceptions.md R125: HOST takes the TransportError record; DEC has failed. -/
def State.handOverError (r : Record) (s : State) : State :=
  { s with evt := s.evt ++ [r], rxOut := none, rxState := .failed }

/-! ### Reset -/

/-- 70_reset_and_hazards.md R138, R139: RESET puts every register to its value after reset. What TRANSPORT and HOST
have accepted stays accepted; parameters and the model's own fields stay (log entry 9). -/
def resetBlock (s : State) : State :=
  { State.reset with
    tx := s.tx, evt := s.evt, chkOut := s.chkOut, initLenMode := s.initLenMode, sched := s.sched, tick := s.tick }

end Sys2Proof.Machine
end

