-- ==== Sys2Proof/Machine/Ports.lean ====
section
/-! DEFINITION. The level ports of 10_state.md R14 and R25, the error HOST sees on TX_STATE (60_exceptions.md R121),
and the holds of R137. -/

namespace Sys2Proof.Machine

/-- 10_state.md R18: the code on TX_STATE. -/
def TxState.code : TxState → BitVec 2
  | .idle => 0#2
  | .send => 1#2
  | .closed => 2#2
  | .failed => 3#2

/-- 10_state.md R20: the code on RX_STATE. -/
def RxState.code : RxState → BitVec 4
  | .idle => 0#4
  | .hdr => 1#4
  | .pay => 2#4
  | .evt => 3#4
  | .trailer => 4#4
  | .emit => 5#4
  | .emitErr => 6#4
  | .stopped => 7#4
  | .failed => 8#4

/-- 10_state.md R14: the level on RUNNING. -/
def State.runningPort (s : State) : BitVec 1 := if s.running then 1#1 else 0#1

/-- 10_state.md R14: the level on TX_STATE. -/
def State.txStatePort (s : State) : BitVec 2 := s.txState.code

/-- 10_state.md R14: the level on RX_STATE. -/
def State.rxStatePort (s : State) : BitVec 4 := s.rxState.code

/-- 10_state.md R25: the status and control registers by number; HOST has no write path to any of them. -/
def State.statusRegister (s : State) (no : Nat) : Option Nat :=
  match no with
  | 0 => some s.runningPort.toNat
  | 1 => some s.txStatePort.toNat
  | 2 => some s.rxStatePort.toNat
  | _ => none

/-- 60_exceptions.md R121, R124: the error HOST sees on TX_STATE. -/
def State.txCause (s : State) : Option Cause :=
  if s.txState = .failed then some .transportTx else none

/-- 42_decoder.md R97 to R102: DEC asks RXD for a byte. The ranges are the rules' own preconditions. -/
def State.asking (s : State) : Bool :=
  match s.rxState with
  | .hdr => decide (s.rxIdx ≤ 1)
  | .pay => decide (s.rxIdx ≤ 3)
  | .evt => decide (s.rxIdx ≤ 15) && decide (s.rxEvi < s.rxCnt.toNat)
  | .trailer => true
  | .idle => false
  | .emit => false
  | .emitErr => false
  | .stopped => false
  | .failed => false

/-- 41_encoder.md R92: ENC offers a byte on TXD: this one. -/
def State.offered (s : State) : Option Byte :=
  if s.txState = .send ∧ s.txI < s.txN then s.txBuf[s.txI]? else none

/-- 60_exceptions.md R123: the phase of a reading state; the other states read nothing. -/
def RxState.phase : RxState → Option Phase
  | .hdr => some .header
  | .pay => some .payload
  | .evt => some .events
  | .trailer => some .trailer
  | .idle => none
  | .emit => none
  | .emitErr => none
  | .stopped => none
  | .failed => none

/-- 60_exceptions.md R137: the wait states. -/
inductive Hold where
  /-- RxByte() waits on TRANSPORT. -/
  | rxByte
  /-- TxByte waits on TRANSPORT. -/
  | txByte
  /-- Emit waits on HOST. -/
  | emit
  /-- ENC waits for a command request. -/
  | cmd
deriving DecidableEq, Repr, Inhabited

/-- 60_exceptions.md R137: what ENC waits for. -/
def State.encHold (s : State) : Option Hold :=
  match s.txState with
  | .idle => if s.running then some .cmd else none
  | .send => some .txByte
  | .closed => none
  | .failed => none

/-- 60_exceptions.md R137: what DEC waits for. -/
def State.decHold (s : State) : Option Hold :=
  match s.rxState with
  | .hdr => some .rxByte
  | .pay => some .rxByte
  | .evt => some .rxByte
  | .trailer => some .rxByte
  | .emit => some .emit
  | .emitErr => some .emit
  | .idle => none
  | .stopped => none
  | .failed => none

end Sys2Proof.Machine
end

