-- ==== Sys2Proof/WellFormed.lean ====
section
/-! DEFINITION. Which terms of Instr are instructions of the table: the conditions the rules put on operands. -/

namespace Sys2Proof

/-- 30_encoding.md R65: the four type bytes that are not Unrecognized at DEC. -/
def recognizedType (t : Byte) : Bool :=
  t == 0x80#8 || t == 0x81#8 || t == 0x82#8 || t == 0x8F#8

/-- A term that stands for an instruction: an Init track of at most MAX_TRACK_LEN bytes (10_state.md R31), as many
event records as the count byte says (30_encoding.md R63), a type byte outside the recognized four for
UNRECOGNIZED (42_decoder.md R108), a nonempty sequence for CHK (40_checksum.md R78). -/
def Instr.wellFormed : Instr → Bool
  | .encStatus => true
  | .encInit f => decide (f.track.length ≤ Config.maxTrackLen)
  | .encDump _ => true
  | .decAck _ _ => true
  | .decStatus _ _ _ => true
  | .decDump _ q recs _ => recs.length == q[2].toNat
  | .decNak _ _ => true
  | .decUnrecognized t _ => !recognizedType t
  | .chk s => !s.isEmpty
  | .hostQuit => true

end Sys2Proof
end

