-- ==== Sys2Proof/Machine/Decoder.lean ====
section
/-! DEFINITION. DEC byte by byte: the steps of 42_decoder.md section 1, and the hand-over (R103, 60_exceptions.md R125). -/

namespace Sys2Proof.Machine

/-- 42_decoder.md R97: header byte 0, the checksum's seed. -/
def State.headerByte0 (b : Byte) (s : State) : State :=
  { s with rxType := b, rxAcc := b, rxNread := 1, rxIdx := 1 }

/-- 42_decoder.md R98: header byte 1 and the dispatch on the type byte. -/
def State.headerByte1 (b : Byte) (s : State) : State :=
  let s1 := { s with rxLen := b, rxAcc := s.rxAcc ^^^ b, rxNread := 2 }
  if s.rxType = 0x80#8 ∨ s.rxType = 0x8F#8 then { s1 with rxState := .trailer }
  else if s.rxType = 0x81#8 ∨ s.rxType = 0x82#8 then { s1 with rxState := .pay, rxIdx := 0 }
  else s1.waitRecord (.unrecognized s.rxType b .notChecked)

/-- 42_decoder.md R99: a payload byte. -/
def State.payloadByte (b : Byte) (s : State) : State :=
  let s1 := { s with
    rxHdr := s.rxHdr.setIfInBounds s.rxIdx b, rxAcc := s.rxAcc ^^^ b, rxNread := s.rxNread + 1 }
  if s.rxIdx < 3 then { s1 with rxIdx := s.rxIdx + 1 }
  else if s.rxType = 0x81#8 then { s1 with rxState := .trailer }
  else
    let s2 := { s1 with rxCnt := s1.rxHdr[2], rxEvi := 0, rxEvents := [] }
    if s2.rxCnt = 0x00#8 then { s2 with rxState := .trailer }
    else { s2 with rxState := .evt, rxIdx := 0 }

/-- 42_decoder.md R100: a Dump record byte. -/
def State.recordByte (b : Byte) (s : State) : State :=
  let s1 := { s with
    rxRec := s.rxRec.setIfInBounds s.rxIdx b, rxAcc := s.rxAcc ^^^ b, rxNread := s.rxNread + 1 }
  if s.rxIdx < 15 then { s1 with rxIdx := s.rxIdx + 1 }
  else
    let s2 := { s1 with
      rxEvents := s1.rxEvents ++ [decodeEvent s1.rxRec], rxEvi := s1.rxEvi + 1, rxIdx := 0 }
    if s2.rxEvi = s2.rxCnt.toNat then { s2 with rxState := .trailer } else s2

/-- 42_decoder.md R102: the record of the frame whose trailer is `b`, made from the registers. -/
def State.trailerRecord (b : Byte) (s : State) : Option Record :=
  if s.rxType = 0x80#8 then some (.ack 0x80#8 s.rxLen b s.rxAcc (checkTrailer b s.rxAcc))
  else if s.rxType = 0x8F#8 then some (.nak 0x8F#8 s.rxLen b s.rxAcc (checkTrailer b s.rxAcc))
  else if s.rxType = 0x81#8 then
    some (.status 0x81#8 s.rxLen s.rxHdr (pkgIdOf s.rxHdr) s.rxHdr[2] (classOf s.rxHdr[2]) b s.rxAcc
      (checkTrailer b s.rxAcc))
  else if s.rxType = 0x82#8 then
    some (.dump 0x82#8 s.rxLen s.rxHdr (pkgIdOf s.rxHdr) s.rxCnt s.rxEvents b s.rxAcc (checkTrailer b s.rxAcc))
  else none

/-- 42_decoder.md R102: the trailer. -/
def trailerByte (b : Byte) (s : State) : Host.Outcome State Fault Refusal :=
  match s.trailerRecord b with
  | some r => .next (s.readTrailer b r)
  | none => .fault .noTrailerType

/-- 42_decoder.md R97 to R102: DEC takes a byte in the reading state it is in. -/
def takeByte (b : Byte) (s : State) : Host.Outcome State Fault Refusal :=
  match s.rxState with
  | .hdr => .next (if s.rxIdx = 0 then s.headerByte0 b else s.headerByte1 b)
  | .pay => .next (s.payloadByte b)
  | .evt => .next (s.recordByte b)
  | .trailer => trailerByte b s
  | .idle => .next s
  | .emit => .next s
  | .emitErr => .next s
  | .stopped => .next s
  | .failed => .next s

/-- 20_memory.md R37: TRANSPORT offers an answer on RXD. If DEC asks for a byte it takes the answer, an `Err` by the
TransportError entry (42_decoder.md R110); else no transfer happens. -/
def rxStep (a : RxAnswer) (s : State) : Host.Outcome State Fault Refusal :=
  if s.asking then
    match a with
    | .byte b => takeByte b s
    | .err =>
      match s.rxState.phase with
      | some ph => .next (raiseTransportError (.rx ph s.rxNread) s)
      | none => .next s
  else .next s

/-- TRANSPORT offers answers on RXD one after another. -/
def feed : List RxAnswer → State → Host.Outcome State Fault Refusal
  | [], s => .next s
  | a :: as, s => andThen (rxStep a s) (feed as)

/-- 42_decoder.md R103, 60_exceptions.md R125: HOST accepts the record that waits on EVT, if one does. -/
def evtStep (s : State) : State :=
  match s.rxState, s.rxOut with
  | .emit, some r => s.handOver r
  | .emitErr, some r => s.handOverError r
  | _, _ => s

end Sys2Proof.Machine
end

