-- ==== Sys2Proof/Machine/Chk.lean ====
section
/-! DEFINITION. CHK, the checksum as an instruction of the table (40_checksum.md R78). -/

namespace Sys2Proof.Machine

/-- CHK, 40_checksum.md R78: a pure function of its bytes. It reads no register and writes none; the result is left
in the model's own field `chkOut` (log entry 7). That its evaluation is a step at all is the model's choice too (log entry
13). -/
def execChk (bs : List Byte) (s : State) : Host.Outcome State Fault Refusal :=
  .next { s with chkOut := some (compute bs) }

end Sys2Proof.Machine
end

