-- ==== Sys2Proof/Decode.lean ====
section
/-! DEFINITION. The frame formats of 30_encoding.md, read (decode) and written (encode). The type byte is the
opcode (R65); it alone, with a Dump's count byte, says where an inbound frame ends (R66, R67). -/

namespace Sys2Proof

open Sys2Proof.Machine

/-- Why a byte sequence is no frame. -/
inductive DecodeError where
  /-- There is no byte, so no type byte. -/
  | noBytes
  /-- The frame that the type byte (and a Dump's count byte) announces is longer than the bytes (R67). -/
  | truncated
  /-- Bytes follow the end of the frame (R67). -/
  | surplus
  /-- An Init frame carries more than MAX_TRACK_LEN tracking bytes (R72). -/
  | trackTooLong
deriving DecidableEq, Repr

/-- The next 16 bytes as an event record (R63), and the bytes after them. -/
def takeRecord (bs : List Byte) : Option (RawEvent × List Byte) :=
  if 16 ≤ bs.length then some (Vector.ofFn fun i => bs.getD i.val 0x00#8, bs.drop 16) else none

/-- The next `n` event records (R63), and the bytes after them. -/
def takeRecords : Nat → List Byte → Option (List RawEvent × List Byte)
  | 0, bs => some ([], bs)
  | n + 1, bs =>
    match takeRecord bs with
    | none => none
    | some (r, bs) =>
      match takeRecords n bs with
      | none => none
      | some (rs, bs) => some (r :: rs, bs)

/-- R61: the trailer after the header of an Ack or a Nak. -/
def decodeTrailer (mk : Byte → Instr) : List Byte → Except DecodeError (Instr × List Byte)
  | ck :: rest => .ok (mk ck, rest)
  | [] => .error .truncated

/-- R62: the payload and trailer of an inbound Status. -/
def decodeStatusTail (len : Byte) : List Byte → Except DecodeError (Instr × List Byte)
  | q0 :: q1 :: q2 :: q3 :: ck :: rest => .ok (.decStatus len #v[q0, q1, q2, q3] ck, rest)
  | _ => .error .truncated

/-- R63: the payload header, the event records and the trailer of an inbound Dump. -/
def decodeDumpTail (len : Byte) : List Byte → Except DecodeError (Instr × List Byte)
  | q0 :: q1 :: q2 :: q3 :: rest =>
    match takeRecords q2.toNat rest with
    | some (recs, ck :: rest) => .ok (.decDump len #v[q0, q1, q2, q3] recs ck, rest)
    | _ => .error .truncated
  | _ => .error .truncated

/-- R65 to R67: the inbound frame that stands first in a byte sequence, and the bytes after it. -/
def decodeInbound : List Byte → Except DecodeError (Instr × List Byte)
  | [] => .error .noBytes
  | [_] => .error .truncated
  | t :: len :: rest =>
    if t = 0x80#8 then decodeTrailer (.decAck len) rest
    else if t = 0x8F#8 then decodeTrailer (.decNak len) rest
    else if t = 0x81#8 then decodeStatusTail len rest
    else if t = 0x82#8 then decodeDumpTail len rest
    else .ok (.decUnrecognized t len, rest)

/-- R60: the fields of an Init frame from its offset 2 on; the last byte is the checksum, the ones before it from
offset 18 on are the tracking number. -/
def decodeInitTail : List Byte → Except DecodeError Instr
  | p0 :: p1 :: r0 :: r1 :: y0 :: y1 :: mo :: da :: wd :: ho :: mi :: se :: cc :: uc :: tm :: tl :: c :: cs =>
    let track := (c :: cs).dropLast
    if track.length ≤ Config.maxTrackLen then
      .ok (.encInit {
        pkgId := le16 p0 p1, reserved := le16 r0 r1, year := le16 y0 y1, month := mo, day := da, weekday := wd,
        hour := ho, minute := mi, second := se, carrierCode := cc, userCode := uc, trackMode := tm, trackLen := tl,
        track := track })
    else .error .trackTooLong
  | _ => .error .truncated

/-- The end of a frame: the bytes after it are surplus. -/
def exactly : Except DecodeError (Instr × List Byte) → Except DecodeError Instr
  | .ok (i, []) => .ok i
  | .ok (_, _ :: _) => .error .surplus
  | .error e => .error e

/-- R58, R59: a frame of known length whose fields are read from its bytes. -/
def decodeFrame : List Byte → Except DecodeError Instr
  | [] => .error .noBytes
  | t :: rest =>
    if t = 0x00#8 then
      match rest with
      | [_, _] => .ok .encStatus
      | _ :: _ :: _ :: _ => .error .surplus
      | _ => .error .truncated
    else if t = 0x02#8 then
      match rest with
      | [_, code, _] => .ok (.encDump code)
      | _ :: _ :: _ :: _ :: _ => .error .surplus
      | _ => .error .truncated
    else if t = 0x01#8 then
      match rest with
      | _ :: tail => decodeInitTail tail
      | [] => .error .truncated
    else exactly (decodeInbound (t :: rest))

/-- The bytes of a table word of `n` bytes, its least significant byte first on the wire. -/
def wordBytes : Nat → Nat → List Byte
  | 0, _ => []
  | n + 1, w => BitVec.ofNat 8 w :: wordBytes n (w / 256)

/-- R57 to R67: how many bytes the frame takes whose first bytes are these (absent bytes read as zero; an outbound
Init has at least its 19 fixed bytes). -/
def frameSize (bs : List Byte) : Nat :=
  let t := bs.getD 0 0x00#8
  if t = 0x00#8 then 3
  else if t = 0x01#8 then 19
  else if t = 0x02#8 then 4
  else if t = 0x80#8 then 3
  else if t = 0x8F#8 then 3
  else if t = 0x81#8 then 7
  else if t = 0x82#8 then 7 + 16 * (bs.getD 4 0x00#8).toNat
  else 2

/-- The bytes of a table word of `nbits` bits as they stand on the wire, zeros up to the end of the frame. -/
def layoutWord (nbits w : Nat) : List Byte :=
  match wordBytes ((nbits + 7) / 8) w with
  | [] => []
  | b :: bs => (b :: bs) ++ List.replicate (frameSize (b :: bs) - (b :: bs).length) 0x00#8

/-- The instruction that the decoder reads from a table word. -/
def decodeTableWord (nbits w : Nat) : Option Instr :=
  match decodeFrame (layoutWord nbits w) with
  | .ok i => some i
  | .error _ => none

/-- 41_encoder.md R86, 42_decoder.md R112: the bytes of a frame before its trailer, closed by their checksum. -/
def withTrailer (body : List Byte) : List Byte := body ++ [compute body]

/-- 30_encoding.md R75, 41_encoder.md R86: the Init length byte for `n` tracking bytes. -/
def initLen (m : InitLenMode) (n : Nat) : Byte :=
  match m with
  | .fixed => 0x22#8
  | .derived => BitVec.ofNat 8 (16 + n)

/-- 41_encoder.md R86: the outbound Status frame. -/
def encodeStatus : List Byte := withTrailer [0x00#8, 0x00#8]

/-- 41_encoder.md R86: the outbound Dump frame. -/
def encodeDump (code : Byte) : List Byte := withTrailer [0x02#8, 0x01#8, code]

/-- 41_encoder.md R86, 30_encoding.md R60: the outbound Init frame before its trailer. -/
def initBody (m : InitLenMode) (f : InitFields) : List Byte :=
  [0x01#8, initLen m f.track.length]
    ++ bytes16le f.pkgId ++ bytes16le f.reserved ++ bytes16le f.year
    ++ [f.month, f.day, f.weekday, f.hour, f.minute, f.second]
    ++ [f.carrierCode, f.userCode, f.trackMode, f.trackLen]
    ++ f.track

/-- 41_encoder.md R86: the outbound Init frame. -/
def encodeInit (m : InitLenMode) (f : InitFields) : List Byte := withTrailer (initBody m f)

/-- 30_encoding.md R58 to R65: the bytes of an instruction's frame; CHK and HOST.QUIT have none. -/
def encode (m : InitLenMode) : Instr → Option (List Byte)
  | .encStatus => some encodeStatus
  | .encInit f => some (encodeInit m f)
  | .encDump code => some (encodeDump code)
  | .decAck len ck => some [0x80#8, len, ck]
  | .decStatus len q ck => some (0x81#8 :: len :: q.toList ++ [ck])
  | .decDump len q recs ck => some (0x82#8 :: len :: q.toList ++ recs.flatMap (fun r => r.toList) ++ [ck])
  | .decNak len ck => some [0x8F#8, len, ck]
  | .decUnrecognized t len => some [t, len]
  | .chk _ => none
  | .hostQuit => none

end Sys2Proof
end

