-- ==== Sys2Proof/Machine/Encoder.lean ====
section
/-! DEFINITION. ENC: the three frame requests (41_encoder.md R89 to R91) and the send step (R92). -/

namespace Sys2Proof.Machine

/-- ENC.STATUS, 41_encoder.md R89: the constant frame is accepted (R88); the send steps put it on TX. -/
def execEncStatus (s : State) : Host.Outcome State Fault Refusal :=
  .next (acceptFrame encodeStatus s)

/-- ENC.DUMP, 41_encoder.md R90: the frame with the access code is accepted (R88). -/
def execEncDump (code : Byte) (s : State) : Host.Outcome State Fault Refusal :=
  .next (acceptFrame (encodeDump code) s)

/-- ENC.INIT, 41_encoder.md R91: the Init frame is accepted (R88), its length byte filled as INIT_LEN_MODE says (R75).
A track longer than MAX_TRACK_LEN is refused where ENC would take the request (R87). -/
def execEncInit (f : InitFields) (s : State) : Host.Outcome State Fault Refusal :=
  if s.cmdReady then
    if f.track.length ≤ Config.maxTrackLen then .next (acceptFrame (encodeInit s.initLenMode f) s)
    else .refused .trackTooLong
  else .next s

/-- 41_encoder.md R92: the send step. With no byte on offer TRANSPORT's answer meets no transfer. -/
def txStep (a : TxAnswer) (s : State) : State :=
  match s.offered with
  | none => s
  | some b =>
    match a with
    | .accept => s.sendByte b
    | .err => raiseTransportError (.tx s.txI) s

end Sys2Proof.Machine
end

