-- ==== Sys2Proof/Machine/Frames.lean ====
section
/-! DEFINITION. DEC frame by frame: one meaning per inbound frame kind (42_decoder.md section 2, R104 to R108), from the
first header byte to the record waiting on EVT. A meaning is what the frame's byte steps come to, written as one function
like R112's whole-frame view; no step of the machine takes more than one of its bytes (00_scope.md R9; log entry 2). DEC
takes the frame where it asks for a first header byte; anywhere else the frame waits. -/

namespace Sys2Proof.Machine

/-- DEC.ACK, 42_decoder.md R104. -/
def execDecAck (len ck : Byte) (s : State) : Host.Outcome State Fault Refusal :=
  if s.atFrameStart then
    let expected := compute [0x80#8, len]
    .next ((s.readHeader 0x80#8 len).readTrailer ck (.ack 0x80#8 len ck expected (checkTrailer ck expected)))
  else .next s

/-- DEC.NAK, 42_decoder.md R107: the checksum is this frame's own (90_conflicts.md C3). -/
def execDecNak (len ck : Byte) (s : State) : Host.Outcome State Fault Refusal :=
  if s.atFrameStart then
    let expected := compute [0x8F#8, len]
    .next ((s.readHeader 0x8F#8 len).readTrailer ck (.nak 0x8F#8 len ck expected (checkTrailer ck expected)))
  else .next s

/-- DEC.STATUS, 42_decoder.md R105. -/
def execDecStatus (len : Byte) (q : Quad) (ck : Byte) (s : State) : Host.Outcome State Fault Refusal :=
  if s.atFrameStart then
    let expected := compute (0x81#8 :: len :: q.toList)
    .next (((s.readHeader 0x81#8 len).readPayload q).readTrailer ck
      (.status 0x81#8 len q (pkgIdOf q) q[2] (classOf q[2]) ck expected (checkTrailer ck expected)))
  else .next s

/-- DEC.DUMP, 42_decoder.md R106: as many records as the count byte says. -/
def execDecDump (len : Byte) (q : Quad) (recs : List RawEvent) (ck : Byte) (s : State) :
    Host.Outcome State Fault Refusal :=
  if recs.length = q[2].toNat then
    if s.atFrameStart then
      let expected := compute (0x82#8 :: len :: q.toList ++ recs.flatMap (fun r => r.toList))
      .next ((((s.readHeader 0x82#8 len).readPayload q).readRecords recs).readTrailer ck
        (.dump 0x82#8 len q (pkgIdOf q) q[2] (recs.map decodeEvent) ck expected (checkTrailer ck expected)))
    else .next s
  else .refused .notAFrame

/-- DEC.UNRECOGNIZED, 42_decoder.md R108: two bytes, no trailer, no checksum. -/
def execDecUnrecognized (t len : Byte) (s : State) : Host.Outcome State Fault Refusal :=
  if recognizedType t then .refused .notAFrame
  else if s.atFrameStart then
    .next ((s.readHeader t len).waitRecord (.unrecognized t len .notChecked))
  else .next s

end Sys2Proof.Machine
end

