-- ==== Sys2Proof/Machine/Session.lean ====
section
/-! DEFINITION. Session control (43_session_control.md): HOST.QUIT, ENC's check and DEC's frame-boundary check. -/

namespace Sys2Proof.Machine

/-- HOST.QUIT, 43_session_control.md R114: accepted where ENC is ready on CMD; else the offer waits. -/
def execHostQuit (s : State) : Host.Outcome State Fault Refusal :=
  .next (if s.cmdReady then s.quit else s)

/-- 43_session_control.md R115: ENC in TX_IDLE closes once `running` is 0. -/
def encCheckStep (s : State) : State :=
  if s.txState = .idle ∧ s.running = false then s.closeEnc else s

/-- 43_session_control.md R116: DEC's check at the frame boundary. -/
def boundaryStep (s : State) : State :=
  if s.rxState = .idle then
    if s.running then s.enterHeader else s.stopDec
  else s

end Sys2Proof.Machine
end

