-- ==== Sys2Proof/Machine/Dispatch.lean ====
section
/-! DEFINITION. One arm per constructor of Instr, each a direct call of its meaning. -/

namespace Sys2Proof.Machine

def exec (i : Instr) (s : State) : Host.Outcome State Fault Refusal :=
  match i with
  -- ENC (41_encoder.md)
  | .encStatus => Sys2Proof.Machine.execEncStatus s
  | .encInit f => Sys2Proof.Machine.execEncInit f s
  | .encDump code => Sys2Proof.Machine.execEncDump code s
  -- DEC (42_decoder.md)
  | .decAck len ck => Sys2Proof.Machine.execDecAck len ck s
  | .decStatus len q ck => Sys2Proof.Machine.execDecStatus len q ck s
  | .decDump len q recs ck => Sys2Proof.Machine.execDecDump len q recs ck s
  | .decNak len ck => Sys2Proof.Machine.execDecNak len ck s
  | .decUnrecognized t len => Sys2Proof.Machine.execDecUnrecognized t len s
  -- CHK (40_checksum.md) and HOST.QUIT (43_session_control.md)
  | .chk bs => Sys2Proof.Machine.execChk bs s
  | .hostQuit => Sys2Proof.Machine.execHostQuit s

end Sys2Proof.Machine
end

