-- ==== Sys2Proof/Machine/Turns.lean ====
section
/-! DEFINITION. What one turn of the schedule does, and how a table word is placed where the next step takes it. -/

namespace Sys2Proof.Machine

/-- What a turn does: one atomic step of 00_scope.md R9, or an evaluation of CHK, which is a turn of no agent by the model's
choice (log entry 13). -/
def runTurn (t : Turn) (s : State) : Host.Outcome State Fault Refusal :=
  match t with
  | .boundary => .next (boundaryStep s)
  | .encCheck => .next (encCheckStep s)
  | .cmd r => exec r.instr s
  | .tx a => .next (txStep a s)
  | .rx a => rxStep a s
  | .evt => .next (evtStep s)
  | .chk bs => exec (.chk bs) s
  | .reset => .next (resetBlock s)

/-- Turns in a row. -/
def runTurns : List Turn → State → Host.Outcome State Fault Refusal
  | [], s => .next s
  | t :: ts, s => andThen (runTurn t s) (runTurns ts)

/-- The state in which DEC, started at a frame's first header byte, has taken all bytes of a frame but the last, and the
next turn offers that one: the step that takes it completes the frame (42_decoder.md R98, R102). -/
def placeFrame (bs : List Byte) (s : State) : State :=
  match feed (bs.dropLast.map .byte) s.enterHeader with
  | .next t => { t with sched := rxLine (bs.drop (bs.length - 1)) ++ t.sched }
  | .fault _ => s
  | .refused _ => s

/-- The state in which the next step runs the instruction of a table word (log entry 11): a command request is offered on
CMD with ENC ready; of an inbound frame, the last byte is offered on RXD. -/
def placeWord (s : State) (nbits w : Nat) : State :=
  let bs := layoutWord nbits w
  match decodeFrame bs with
  | .ok i =>
    match i.request with
    | some r => { s with running := true, txState := .idle, sched := .cmd r :: s.sched }
    | none => placeFrame bs s
  | .error _ => { s with sched := rxLine bs ++ s.sched }

end Sys2Proof.Machine
end

