-- ==== Sys2Proof/Machine/Step.lean ====
section
/-! DEFINITION. One step of the machine: the next turn of the schedule, taken off it and run. -/

namespace Sys2Proof.Machine

/-- 00_scope.md R9: one step, or an evaluation of CHK (log entry 13). -/
def step (s : State) : Host.Outcome State Fault Refusal :=
  runTurn s.nextTurn s.dropTurn

/-- The state in which the next step runs the instruction of a table word (log entry 11). -/
def State.withFetchWord (s : State) (nbits w : Nat) : State := placeWord s nbits w

end Sys2Proof.Machine
end

