-- ==== Sys2Proof/Machine/WholeFrame.lean ====
section
/-! DEFINITION. The whole-frame view of 42_decoder.md R112: the record that a sequence of TRANSPORT's answers gives, as
one pure function. -/

namespace Sys2Proof.Machine

/-- What `take(n, ph)` of 42_decoder.md R112 comes to. -/
inductive Taken where
  /-- the n bytes, and the answers after them -/
  | got (bs : List Byte) (rest : List RxAnswer)
  /-- one of the n answers is `Err`: the number of Byte answers before it -/
  | failed (before : Nat)
  /-- the answers stop: DEC is held -/
  | held
deriving DecidableEq, Repr

/-- 42_decoder.md R112: the next `n` answers. -/
def takeAnswers : Nat → List RxAnswer → Taken
  | 0, as => .got [] as
  | _ + 1, [] => .held
  | _ + 1, .err :: _ => .failed 0
  | n + 1, .byte b :: as =>
    match takeAnswers n as with
    | .got bs rest => .got (b :: bs) rest
    | .failed k => .failed (k + 1)
    | .held => .held

/-- 42_decoder.md R112: a record, with the number of answers DEC used for it. -/
structure FrameResult where
  record : Record
  used : Nat
deriving DecidableEq, Repr

/-- 42_decoder.md R112: the record of a read that failed in phase `ph`, `k` bytes of the frame consumed. -/
def readFailed (ph : Phase) (k : Nat) : Option FrameResult :=
  some { record := .transportError ph k, used := k + 1 }

/-- 42_decoder.md R112: the trailer, after `k` bytes. -/
def wholeTrailer (k : Nat) (as : List RxAnswer) (mk : Byte → Record) : Option FrameResult :=
  match takeAnswers 1 as with
  | .got bs _ => some { record := mk (bs.getD 0 0x00#8), used := k + 1 }
  | .failed n => readFailed .trailer (k + n)
  | .held => none

/-- 42_decoder.md R112: `n` event records of 16 bytes, after `k` bytes; what comes after them is `cont`'s. -/
def wholeRecords : Nat → Nat → List RxAnswer → (List RawEvent → List RxAnswer → Option FrameResult) → Option FrameResult
  | 0, _, as, cont => cont [] as
  | n + 1, k, as, cont =>
    match takeAnswers 16 as with
    | .got bs rest =>
      wholeRecords n (k + 16) rest fun rs rest' => cont (Vector.ofFn (fun i => bs.getD i.val 0x00#8) :: rs) rest'
    | .failed j => readFailed .events (k + j)
    | .held => none

/-- 42_decoder.md R112: decodeFrame(a), with the number of answers used; none where the answers stop first. -/
def wholeFrame (as : List RxAnswer) : Option FrameResult :=
  match takeAnswers 2 as with
  | .held => none
  | .failed n => readFailed .header n
  | .got hd as =>
    let t := hd.getD 0 0x00#8
    let len := hd.getD 1 0x00#8
    if recognizedType t = false then some { record := .unrecognized t len .notChecked, used := 2 }
    else if t = 0x80#8 then
      wholeTrailer 2 as fun ck => .ack t len ck (compute [t, len]) (checkTrailer ck (compute [t, len]))
    else if t = 0x8F#8 then
      wholeTrailer 2 as fun ck => .nak t len ck (compute [t, len]) (checkTrailer ck (compute [t, len]))
    else
      match takeAnswers 4 as with
      | .held => none
      | .failed n => readFailed .payload (2 + n)
      | .got pl as =>
        let q : Quad := Vector.ofFn fun i => pl.getD i.val 0x00#8
        if t = 0x81#8 then
          wholeTrailer 6 as fun ck =>
            .status t len q (pkgIdOf q) q[2] (classOf q[2]) ck (compute (t :: len :: q.toList))
              (checkTrailer ck (compute (t :: len :: q.toList)))
        else
          wholeRecords q[2].toNat 6 as fun rs as =>
            wholeTrailer (6 + 16 * q[2].toNat) as fun ck =>
              .dump t len q (pkgIdOf q) q[2] (rs.map decodeEvent) ck
                (compute (t :: len :: q.toList ++ rs.flatMap fun r => r.toList))
                (checkTrailer ck (compute (t :: len :: q.toList ++ rs.flatMap fun r => r.toList)))

end Sys2Proof.Machine
end

