-- ==== Sys2Proof/Safety.lean ====
section
/-! DEFINITION. What a good state is, in the terms the statements use: the invariant of every run, and the end of a
session (43_session_control.md R119). -/

namespace Sys2Proof.Machine

/-- The bytes of the current frame that DEC has consumed, trailer excluded, as its registers hold them in a reading
state: the bytes that 40_checksum.md R83 and 42_decoder.md R102 say `rx_acc` is the checksum of. -/
def State.frameSoFar (s : State) : List Byte :=
  match s.rxState with
  | .hdr => if s.rxIdx = 0 then [] else [s.rxType]
  | .pay => [s.rxType, s.rxLen] ++ s.rxHdr.toList.take s.rxIdx
  | .evt =>
    [s.rxType, s.rxLen] ++ s.rxHdr.toList ++ s.rxEvents.flatMap (fun e => e.raw.toList) ++ s.rxRec.toList.take s.rxIdx
  | .trailer =>
    if s.rxType = 0x80#8 ∨ s.rxType = 0x8F#8 then [s.rxType, s.rxLen]
    else if s.rxType = 0x81#8 then [s.rxType, s.rxLen] ++ s.rxHdr.toList
    else [s.rxType, s.rxLen] ++ s.rxHdr.toList ++ s.rxEvents.flatMap (fun e => e.raw.toList)
  | .idle => []
  | .emit => []
  | .emitErr => []
  | .stopped => []
  | .failed => []

/-- The Dump registers agree with one another: the count is the payload header's third byte, `rx_evi` counts the
records completed, and each of them is the decoded form of its raw bytes (42_decoder.md R99 to R101). -/
def State.DumpOk (s : State) : Prop :=
  s.rxCnt = s.rxHdr[2] ∧ s.rxEvents.length = s.rxEvi ∧ ∀ e ∈ s.rxEvents, e = decodeEvent e.raw

/-- 10_state.md R22 to R24, R30, 42_decoder.md R102: the fields of a record agree with one another. The checksum
field is the checksum of the bytes the other fields hold, and the outcome compares the trailer with it. -/
def Record.Consistent : Record → Prop
  | .ack t len c k o => t = 0x80#8 ∧ k = compute [t, len] ∧ o = checkTrailer c k
  | .nak t len c k o => t = 0x8F#8 ∧ k = compute [t, len] ∧ o = checkTrailer c k
  | .status t len q pkg code cls c k o =>
    t = 0x81#8 ∧ pkg = pkgIdOf q ∧ code = q[2] ∧ cls = classOf code ∧ k = compute (t :: len :: q.toList) ∧
      o = checkTrailer c k
  | .dump t len q pkg cnt evs c k o =>
    t = 0x82#8 ∧ pkg = pkgIdOf q ∧ cnt = q[2] ∧ evs.length = cnt.toNat ∧ (∀ e ∈ evs, e = decodeEvent e.raw) ∧
      k = compute (t :: len :: q.toList ++ evs.flatMap (fun e => e.raw.toList)) ∧ o = checkTrailer c k
  | .unrecognized t _ o => recognizedType t = false ∧ o = .notChecked
  | .transportError _ nread => nread ≤ 4086

/-- 10_state.md R19, R20, R28, R30: what DEC's registers satisfy in each state of its sequencer. -/
def State.DecShape (s : State) : Prop :=
  match s.rxState with
  | .idle => s.rxOut = none
  | .hdr => s.rxOut = none ∧ s.rxIdx ≤ 1
  | .pay => s.rxOut = none ∧ s.rxIdx ≤ 3 ∧ (s.rxType = 0x81#8 ∨ s.rxType = 0x82#8)
  | .evt => s.rxOut = none ∧ s.rxIdx ≤ 15 ∧ s.rxType = 0x82#8 ∧ s.rxEvi < s.rxCnt.toNat ∧ s.DumpOk
  | .trailer =>
    s.rxOut = none ∧ recognizedType s.rxType = true ∧
      (s.rxType = 0x82#8 → s.rxEvi = s.rxCnt.toNat ∧ s.DumpOk)
  | .emit => s.rxNread ≤ 4087 ∧ ∃ r, s.rxOut = some r ∧ r.kind ≠ .transportError ∧ r.Consistent
  | .emitErr => ∃ ph, s.rxOut = some (.transportError ph s.rxNread) ∧ s.rxNread ≤ 4086
  | .stopped => s.rxOut = none
  | .failed => s.rxOut = none

/-- 40_checksum.md R83, 42_decoder.md R100, R102: while DEC reads a frame, `rx_nread` counts the bytes consumed and
`rx_acc` is their checksum. -/
def State.AccOk (s : State) : Prop :=
  (s.rxState = .hdr ∨ s.rxState = .pay ∨ s.rxState = .evt ∨ s.rxState = .trailer) →
    s.rxNread = s.frameSoFar.length ∧ (s.frameSoFar ≠ [] → s.rxAcc = compute s.frameSoFar)

/-- 10_state.md R17, 41_encoder.md R92: what ENC's registers satisfy. -/
def State.EncOk (s : State) : Prop :=
  s.txN = s.txBuf.length ∧ s.txI ≤ s.txN ∧ s.txN ≤ 19 + Config.maxTrackLen ∧
    (s.txBuf ≠ [] → 3 ≤ s.txN ∧ compute s.txBuf = 0x00#8) ∧
    (s.txState = .send → s.txI < s.txN) ∧ (s.txState = .idle ∨ s.txState = .closed → s.txI = s.txN)

/-- 43_session_control.md R114, R116, 60_exceptions.md R123, R124: a session flag that is still set has no agent in a
state that only a cleared flag leads to. -/
def State.RunningOk (s : State) : Prop :=
  s.running = true →
    s.txState ≠ .closed ∧ s.txState ≠ .failed ∧
      s.rxState ≠ .emitErr ∧ s.rxState ≠ .stopped ∧ s.rxState ≠ .failed

/-- 42_decoder.md R102, R113: every record HOST has accepted is consistent. -/
def State.EvtOk (s : State) : Prop := ∀ r ∈ s.evt, r.Consistent

/-- The invariant of the machine. -/
def State.Inv (s : State) : Prop := s.DecShape ∧ s.AccOk ∧ s.EncOk ∧ s.RunningOk ∧ s.EvtOk

/-- DEC's registers (10_state.md R19) are the same in both states. -/
def State.SameDec (s t : State) : Prop :=
  t.rxState = s.rxState ∧ t.rxType = s.rxType ∧ t.rxLen = s.rxLen ∧ t.rxAcc = s.rxAcc ∧ t.rxIdx = s.rxIdx ∧
    t.rxHdr = s.rxHdr ∧ t.rxCnt = s.rxCnt ∧ t.rxEvi = s.rxEvi ∧ t.rxRec = s.rxRec ∧ t.rxEvents = s.rxEvents ∧
    t.rxChk = s.rxChk ∧ t.rxNread = s.rxNread ∧ t.rxOut = s.rxOut

/-- ENC's registers (10_state.md R17) are the same in both states. -/
def State.SameEnc (s t : State) : Prop :=
  t.txState = s.txState ∧ t.txBuf = s.txBuf ∧ t.txN = s.txN ∧ t.txI = s.txI

/-- 43_session_control.md R119: the session is over; `silent` says that TRANSPORT offers nothing more. -/
def State.sessionOver (s : State) (silent : Bool) : Bool :=
  (s.txState == .closed || s.txState == .failed) &&
    (s.rxState == .stopped || s.rxState == .failed || (s.atFrameStart && silent)) &&
    s.rxOut.isNone

/-- 43_session_control.md R119: the session has ended in the middle of a frame. -/
def State.endedMidFrame (s : State) (silent : Bool) : Bool :=
  silent && (s.rxState == .pay || s.rxState == .evt || s.rxState == .trailer || (s.rxState == .hdr && s.rxIdx == 1))

/-- A safe run never faults. -/
def safeOutcome (o : Host.Outcome State Fault Refusal) : Prop := ∀ r, o ≠ .fault r

end Sys2Proof.Machine
end

