-- ==== Sys2Proof/Certificates/Slice0/Obligations.lean ====
section
/-! DEFINITION. The statements for the provers, each a proposition about the model; OBLIGATIONS.json says which rule of the
spec each one comes from. -/

open Sys2Proof Sys2Proof.Machine

/-! ### Reset -/

/-- 10_state.md R34: the registers after reset. -/
def Obligations.RegistersAfterReset : Prop :=
  State.reset.running = true ∧ State.reset.txState = .idle ∧ State.reset.txBuf = [] ∧ State.reset.txN = 0 ∧
  State.reset.txI = 0 ∧ State.reset.rxState = .idle ∧ State.reset.rxType = 0x00#8 ∧ State.reset.rxLen = 0x00#8 ∧
  State.reset.rxAcc = 0x00#8 ∧ State.reset.rxCnt = 0x00#8 ∧ State.reset.rxChk = 0x00#8 ∧ State.reset.rxIdx = 0 ∧
  State.reset.rxEvi = 0 ∧ State.reset.rxNread = 0 ∧ State.reset.rxHdr = #v[0x00#8, 0x00#8, 0x00#8, 0x00#8] ∧
  (∀ i : Fin 16, State.reset.rxRec[i] = 0x00#8) ∧ State.reset.rxEvents = [] ∧ State.reset.rxOut = none

/-- 70_reset_and_hazards.md R138, R139: RESET from any state gives every register its value after reset and leaves the
bytes already on the TX stream. That the records already taken and the schedule of offers stay as they are is the model's
choice (log entry 9). -/
def Obligations.ResetTurnFromAnyState : Prop :=
  ∀ s : State, ∃ t, runTurn .reset s = .next t ∧
    t.running = true ∧ t.txState = .idle ∧ t.txBuf = [] ∧ t.txN = 0 ∧ t.txI = 0 ∧ t.rxState = .idle ∧
    t.rxType = 0x00#8 ∧ t.rxLen = 0x00#8 ∧ t.rxAcc = 0x00#8 ∧ t.rxIdx = 0 ∧
    t.rxHdr = #v[0x00#8, 0x00#8, 0x00#8, 0x00#8] ∧ t.rxCnt = 0x00#8 ∧ t.rxEvi = 0 ∧
    t.rxRec = Vector.replicate 16 0x00#8 ∧ t.rxEvents = [] ∧ t.rxChk = 0x00#8 ∧ t.rxNread = 0 ∧ t.rxOut = none ∧
    t.tx = s.tx ∧ t.evt = s.evt ∧ t.sched = s.sched

/-- 70_reset_and_hazards.md R138, 60_exceptions.md R129, R137: no turn but RESET takes an agent out of TX_CLOSED,
TX_FAILED, RX_STOPPED or RX_FAILED. -/
def Obligations.OnlyResetLeavesTerminalStates : Prop :=
  ∀ (u : Turn) (s t : State), u ≠ .reset → runTurn u s = .next t →
    (s.txState = .closed ∨ s.txState = .failed → t.txState = s.txState ∧ t.tx = s.tx) ∧
    (s.rxState = .stopped ∨ s.rxState = .failed → t.rxState = s.rxState ∧ t.rxNread = s.rxNread ∧ t.evt = s.evt)

/-- 70_reset_and_hazards.md R140: after RESET, DEC's first step takes it to RX_HDR, where it asks for a byte, and ENC
waits in TX_IDLE for a command request. -/
def Obligations.FirstStepsAfterReset : Prop :=
  ∀ s : State, ∃ t u, runTurn .reset s = .next t ∧ t.encHold = some .cmd ∧ t.txState = .idle ∧
    runTurn .boundary t = .next u ∧ u.rxState = .hdr ∧ u.asking = true ∧ u.decHold = some .rxByte ∧
    u.encHold = some .cmd

/-! ### ENC -/

/-- 30_encoding.md R58, 41_encoder.md R89: ENC.STATUS, accepted, loads the frame 00 00 00 and changes nothing else. -/
def Obligations.StatusRequestLoadsFrame : Prop :=
  ∀ s : State, s.txState = .idle → s.running = true →
    exec .encStatus s =
      .next { s with txBuf := [0x00#8, 0x00#8, 0x00#8], txN := 3, txI := 0, txState := .send }

/-- 30_encoding.md R59, 41_encoder.md R90: ENC.DUMP, accepted, loads the frame 02 01 code 03^code and changes nothing
else. -/
def Obligations.DumpRequestLoadsFrame : Prop :=
  ∀ (code : Byte) (s : State), s.txState = .idle → s.running = true →
    exec (.encDump code) s =
      .next { s with txBuf := [0x02#8, 0x01#8, code, 0x03#8 ^^^ code], txN := 4, txI := 0, txState := .send }

/-- 30_encoding.md R60, R75, 41_encoder.md R91: ENC.INIT with at most MAX_TRACK_LEN tracking bytes, accepted, loads the
19 + n bytes of the offset table, the length byte as INIT_LEN_MODE says, and changes nothing else. -/
def Obligations.InitRequestLoadsFrame : Prop :=
  ∀ (f : InitFields) (s : State), s.txState = .idle → s.running = true → f.track.length ≤ Config.maxTrackLen →
    ∃ len : Byte,
      (s.initLenMode = .fixed → len = 0x22#8) ∧
      (s.initLenMode = .derived → len.toNat = (16 + f.track.length) % 256) ∧
      ∃ body : List Byte,
        body = [0x01#8, len, f.pkgId.extractLsb' 0 8, f.pkgId.extractLsb' 8 8,
          f.reserved.extractLsb' 0 8, f.reserved.extractLsb' 8 8, f.year.extractLsb' 0 8, f.year.extractLsb' 8 8,
          f.month, f.day, f.weekday, f.hour, f.minute, f.second,
          f.carrierCode, f.userCode, f.trackMode, f.trackLen] ++ f.track ∧
        exec (.encInit f) s =
          .next { s with
            txBuf := body ++ [body.foldl (· ^^^ ·) 0x00#8], txN := 19 + f.track.length, txI := 0, txState := .send }

/-- 41_encoder.md R88: the acceptance step of every admitted frame request. -/
def Obligations.AcceptanceStep : Prop :=
  ∀ (r : Request) (bs : List Byte) (s : State), s.txState = .idle → s.running = true →
    r.instr.wellFormed = true → encode s.initLenMode r.instr = some bs →
    exec r.instr s = .next { s with txBuf := bs, txN := bs.length, txI := 0, txState := .send }

/-- 41_encoder.md R85: a request is transferred exactly where ENC is ready; elsewhere the offer waits and nothing
changes. -/
def Obligations.CmdTransferOnlyWhenReady : Prop :=
  ∀ (r : Request) (s : State),
    (¬ (s.txState = .idle ∧ s.running = true) → exec r.instr s = .next s) ∧
    (s.txState = .idle → s.running = true → r.instr.wellFormed = true →
      ∃ t, exec r.instr s = .next t ∧ t.txState ≠ .idle)

/-- 41_encoder.md R87: an Init request with more than MAX_TRACK_LEN tracking bytes is refused, where ENC would take it (the
model's choice, log entry 6); no other request is. -/
def Obligations.OverlongInitRefused : Prop :=
  (∀ (f : InitFields) (s : State), s.txState = .idle → s.running = true → Config.maxTrackLen < f.track.length →
    exec (.encInit f) s = .refused .trackTooLong) ∧
  (∀ (r : Request) (s : State), r.instr.wellFormed = true → ∃ t, exec r.instr s = .next t)

/-- 41_encoder.md R92, 20_memory.md R38: the send step. An accepted byte is appended to the TX stream and counted, the
last one takes ENC to TX_IDLE; an `Err` is the TransportError entry; no other turn of ENC's does anything in TX_SEND. -/
def Obligations.SendStep : Prop :=
  ∀ (b : Byte) (s : State), s.txState = .send → s.txI < s.txN → s.txBuf[s.txI]? = some b →
    runTurn (.tx .accept) s =
      .next { s with
        tx := s.tx ++ [b], txI := s.txI + 1, txState := if s.txI + 1 = s.txN then .idle else .send } ∧
    runTurn (.tx .err) s = .next (raiseTransportError (.tx s.txI) s) ∧
    runTurn .encCheck s = .next s ∧ ∀ r, runTurn (.cmd r) s = .next s

/-- 60_exceptions.md R124: the TransportError entry on the TX side. `tx_buf`, `tx_n` and `tx_i` keep their values, no
record is made, HOST sees the failure on the TX_STATE and RUNNING ports, and the rest of the frame is never sent. -/
def Obligations.TransportErrorOnSend : Prop :=
  ∀ (b : Byte) (s : State), s.txState = .send → s.txI < s.txN → s.txBuf[s.txI]? = some b →
    ∃ t, runTurn (.tx .err) s = .next t ∧ t = { s with running := false, txState := .failed } ∧
      t.txCause = some .transportTx ∧ t.txStatePort = 3#2 ∧ t.runningPort = 0#1 ∧
      ∀ (us : List Turn) (u : State), (∀ v ∈ us, v ≠ .reset) → runTurns us t = .next u →
        u.txState = .failed ∧ u.tx = s.tx ∧ u.txI = s.txI

/-- 20_memory.md R50, 43_session_control.md R115: once a frame is in TX_SEND its bytes go out in order with nothing
between them, whatever DEC, HOST and a cleared `running` do meanwhile, and ENC stays in TX_SEND with that frame until
the last one. -/
def Obligations.FrameInSendGoesOutWhole : Prop :=
  ∀ (us : List Turn) (s t : State), s.EncOk → s.txState = .send →
    (∀ u ∈ us, u ≠ .reset ∧ u ≠ .tx .err) → us.count (.tx .accept) ≤ s.txN - s.txI →
    runTurns us s = .next t →
    t.tx = s.tx ++ (s.txBuf.drop s.txI).take (us.count (.tx .accept)) ∧
    (us.count (.tx .accept) < s.txN - s.txI → t.txState = .send ∧ t.txBuf = s.txBuf)

/-- 41_encoder.md R88, R92: an accepted request, followed by as many accepted bytes as its frame has, puts exactly the
frame on the TX stream and leaves ENC in TX_IDLE; DEC's registers and records are untouched. -/
def Obligations.AcceptedRequestSendsItsFrame : Prop :=
  ∀ (r : Request) (bs : List Byte) (rest : List Turn) (s : State), s.txState = .idle → s.running = true →
    r.instr.wellFormed = true → encode s.initLenMode r.instr = some bs →
    s.sched = .cmd r :: List.replicate bs.length (.tx .accept) ++ rest →
    Sys2Proof.core.run (bs.length + 1) s =
      .next { s with
        txBuf := bs, txN := bs.length, txI := bs.length, txState := .idle, tx := s.tx ++ bs, sched := rest }

/-- 41_encoder.md R94, the spec's own inference from R86: an encoded frame's last byte is the checksum of the bytes before
it, so the XOR of the whole frame is 0x00. -/
def Obligations.TrailerIsChecksumOfTheRest : Prop :=
  ∀ (m : InitLenMode) (r : Request) (bs : List Byte), encode m r.instr = some bs →
    bs.getLast? = some (compute bs.dropLast) ∧ compute bs = 0x00#8

/-- 41_encoder.md R95, the spec's own inference from R86 and R108: an outbound frame fed to DEC is reported UNRECOGNIZED after its two header bytes, and its other
bytes are not taken while that record waits. -/
def Obligations.LoopedBackFrameIsUnrecognized : Prop :=
  ∀ (m : InitLenMode) (r : Request) (bs : List Byte) (s : State), encode m r.instr = some bs →
    s.rxState = .hdr → s.rxIdx = 0 →
    ∃ t b c, bs[0]? = some b ∧ bs[1]? = some c ∧ feed [.byte b, .byte c] s = .next t ∧
      t.rxState = .emit ∧ t.rxOut = some (.unrecognized b c .notChecked) ∧ feed (bs.map .byte) s = .next t

/-! ### DEC, frame by frame -/

/-- 42_decoder.md R104: DEC.ACK from the first header byte to the record waiting on EVT; nothing else changes. -/
def Obligations.AckFrameRecord : Prop :=
  ∀ (len ck : Byte) (s : State), s.rxState = .hdr → s.rxIdx = 0 →
    exec (.decAck len ck) s =
      .next { s with
        rxType := 0x80#8, rxLen := len, rxAcc := 0x80#8 ^^^ len, rxIdx := 1, rxNread := 3, rxChk := ck, rxState := .emit,
        rxOut := some (.ack 0x80#8 len ck (0x80#8 ^^^ len) (if ck = 0x80#8 ^^^ len then .pass else .fail)) }

/-- 42_decoder.md R107: DEC.NAK, checked against its own type and length bytes. -/
def Obligations.NakFrameRecord : Prop :=
  ∀ (len ck : Byte) (s : State), s.rxState = .hdr → s.rxIdx = 0 →
    exec (.decNak len ck) s =
      .next { s with
        rxType := 0x8F#8, rxLen := len, rxAcc := 0x8F#8 ^^^ len, rxIdx := 1, rxNread := 3, rxChk := ck, rxState := .emit,
        rxOut := some (.nak 0x8F#8 len ck (0x8F#8 ^^^ len) (if ck = 0x8F#8 ^^^ len then .pass else .fail)) }

/-- 42_decoder.md R105: DEC.STATUS. -/
def Obligations.StatusFrameRecord : Prop :=
  ∀ (len q0 q1 q2 q3 ck k : Byte) (s : State), s.rxState = .hdr → s.rxIdx = 0 →
    k = 0x81#8 ^^^ len ^^^ q0 ^^^ q1 ^^^ q2 ^^^ q3 →
    exec (.decStatus len #v[q0, q1, q2, q3] ck) s =
      .next { s with
        rxType := 0x81#8, rxLen := len, rxAcc := k, rxIdx := 3, rxNread := 7, rxHdr := #v[q0, q1, q2, q3], rxChk := ck,
        rxState := .emit,
        rxOut := some (.status 0x81#8 len #v[q0, q1, q2, q3] (le16 q0 q1) q2
          (if q2 = 0x00#8 then .uninitialized else if q2 = 0x01#8 then .tracking else .error)
          ck k (if ck = k then .pass else .fail)) }

/-- 42_decoder.md R106: DEC.DUMP with as many records as the count byte says: the record, and everything that is not
a register of the frame unchanged. -/
def Obligations.DumpFrameRecord : Prop :=
  ∀ (len q0 q1 q2 q3 ck k : Byte) (recs : List RawEvent) (s : State), s.rxState = .hdr → s.rxIdx = 0 →
    recs.length = q2.toNat →
    k = 0x82#8 ^^^ len ^^^ q0 ^^^ q1 ^^^ q2 ^^^ q3 ^^^ (recs.map fun r => compute r.toList).foldl (· ^^^ ·) 0x00#8 →
    exec (.decDump len #v[q0, q1, q2, q3] recs ck) s =
      .next { s with
        rxType := 0x82#8, rxLen := len, rxAcc := k, rxIdx := if q2 = 0x00#8 then 3 else 0,
        rxNread := 7 + 16 * q2.toNat, rxHdr := #v[q0, q1, q2, q3], rxCnt := q2, rxEvi := q2.toNat,
        rxRec := recs.getLastD s.rxRec, rxEvents := recs.map decodeEvent, rxChk := ck, rxState := .emit,
        rxOut := some (.dump 0x82#8 len #v[q0, q1, q2, q3] (le16 q0 q1) q2 (recs.map decodeEvent) ck k
          (if ck = k then .pass else .fail)) }

/-- 42_decoder.md R108: DEC.UNRECOGNIZED: two bytes, no trailer, no checksum. -/
def Obligations.UnrecognizedFrameRecord : Prop :=
  ∀ (t len : Byte) (s : State), s.rxState = .hdr → s.rxIdx = 0 →
    t ≠ 0x80#8 → t ≠ 0x81#8 → t ≠ 0x82#8 → t ≠ 0x8F#8 →
    exec (.decUnrecognized t len) s =
      .next { s with
        rxType := t, rxLen := len, rxAcc := t ^^^ len, rxIdx := 1, rxNread := 2, rxState := .emit,
        rxOut := some (.unrecognized t len .notChecked) }

/-- 42_decoder.md R97, 20_memory.md R49 and the model's log entries 2, 3 and 10: where DEC does not ask for a first
header byte, a frame's instruction waits; a term that is no frame is refused in every state. -/
def Obligations.FrameWaitsOrIsRefused : Prop :=
  (∀ (i : Instr) (m : InitLenMode) (s : State), i.request = none → (encode m i).isSome = true →
    i.wellFormed = true → ¬ (s.rxState = .hdr ∧ s.rxIdx = 0) → exec i s = .next s) ∧
  (∀ (i : Instr) (m : InitLenMode) (s : State), i.request = none → (encode m i).isSome = true →
    i.wellFormed = false → exec i s = .refused .notAFrame)

/-- 42_decoder.md R101, 10_state.md R29, 30_encoding.md R64: every field of a decoded event, the multi-byte ones by
value. -/
def Obligations.EventFieldsAtTheirOffsets : Prop :=
  ∀ r : RawEvent,
    (decodeEvent r).raw = r ∧ (decodeEvent r).flag = r[0] ∧
    (decodeEvent r).eventKind = (if r[0] = 0x00#8 then .drop else .flip) ∧
    (decodeEvent r).year.toNat = r[4].toNat + 256 * r[5].toNat ∧
    (decodeEvent r).month = r[6] ∧ (decodeEvent r).day = r[7] ∧ (decodeEvent r).weekday = r[8] ∧
    (decodeEvent r).hour = r[9] ∧ (decodeEvent r).minute = r[10] ∧ (decodeEvent r).second = r[11] ∧
    (decodeEvent r).data.toNat =
      r[12].toNat + 256 * r[13].toNat + 65536 * r[14].toNat + 16777216 * r[15].toNat

/-- 30_encoding.md R68, R69: the value maps of the status code and the event flag, over every byte; a Status record carries
the class of its raw status code and that code, a Dump event the kind of its raw flag and that flag. -/
def Obligations.ValueMapsOverEveryByte : Prop :=
  (∀ b : Byte, (b.toNat = 0 → classOf b = .uninitialized) ∧ (b.toNat = 1 → classOf b = .tracking) ∧
    (2 ≤ b.toNat → classOf b = .error)) ∧
  (∀ b : Byte, (b.toNat = 0 → kindOf b = .drop) ∧ (1 ≤ b.toNat → kindOf b = .flip)) ∧
  (∀ (b : Byte) (s : State), s.rxState = .trailer → s.rxType = 0x81#8 →
    ∃ t q pkg k o, runTurn (.rx (.byte b)) s = .next t ∧
      t.rxOut = some (.status 0x81#8 s.rxLen q pkg s.rxHdr[2] (classOf s.rxHdr[2]) b k o)) ∧
  (∀ r : RawEvent, (decodeEvent r).flag = r[0] ∧ (decodeEvent r).eventKind = kindOf r[0])

/-- 42_decoder.md R111, 30_encoding.md R66: where an inbound frame ends does not depend on its length byte. -/
def Obligations.LengthByteSizesNothing : Prop :=
  ∀ (t len len' : Byte) (rest : List Byte),
    (decodeInbound (t :: len :: rest)).map Prod.snd = (decodeInbound (t :: len' :: rest)).map Prod.snd

/-- 60_exceptions.md R122, 42_decoder.md R109: after a record with a failed checksum or an unrecognized type, DEC hands
the record over and is at the frame boundary; `running` and ENC are not touched. -/
def Obligations.DataErrorsDoNotStopTheSession : Prop :=
  ∀ (i : Instr) (m : InitLenMode) (s : State), i.request = none → (encode m i).isSome = true →
    i.wellFormed = true → s.rxState = .hdr → s.rxIdx = 0 →
    ∃ t r u, exec i s = .next t ∧ t.rxOut = some r ∧ r.cause ≠ some .transportRx ∧ r.cause ≠ some .protocolShape ∧
      runTurn .evt t = .next u ∧ u.rxState = .idle ∧ u.rxOut = none ∧ u.evt = s.evt ++ [r] ∧
      u.running = s.running ∧ u.txState = s.txState ∧ u.txBuf = s.txBuf ∧ u.txI = s.txI ∧ u.txN = s.txN ∧
      u.tx = s.tx

/-! ### DEC, byte by byte -/

/-- 42_decoder.md R97, R98: the two header bytes, the dispatch on the type byte, and an `Err` in the place of each. -/
def Obligations.HeaderBytesAndDispatch : Prop :=
  (∀ (b : Byte) (s : State), s.rxState = .hdr → s.rxIdx = 0 →
    runTurn (.rx (.byte b)) s = .next { s with rxType := b, rxAcc := b, rxNread := 1, rxIdx := 1 } ∧
    (s.rxNread = 0 →
      runTurn (.rx .err) s =
        .next { s with rxOut := some (.transportError .header 0), running := false, rxState := .emitErr })) ∧
  (∀ (b : Byte) (s : State), s.rxState = .hdr → s.rxIdx = 1 →
    (s.rxType = 0x80#8 ∨ s.rxType = 0x8F#8 →
      runTurn (.rx (.byte b)) s =
        .next { s with rxLen := b, rxAcc := s.rxAcc ^^^ b, rxNread := 2, rxState := .trailer }) ∧
    (s.rxType = 0x81#8 ∨ s.rxType = 0x82#8 →
      runTurn (.rx (.byte b)) s =
        .next { s with rxLen := b, rxAcc := s.rxAcc ^^^ b, rxNread := 2, rxState := .pay, rxIdx := 0 }) ∧
    (s.rxType ≠ 0x80#8 → s.rxType ≠ 0x81#8 → s.rxType ≠ 0x82#8 → s.rxType ≠ 0x8F#8 →
      runTurn (.rx (.byte b)) s =
        .next { s with
          rxLen := b, rxAcc := s.rxAcc ^^^ b, rxNread := 2, rxState := .emit,
          rxOut := some (.unrecognized s.rxType b .notChecked) }) ∧
    (s.rxNread = 1 →
      runTurn (.rx .err) s =
        .next { s with rxOut := some (.transportError .header 1), running := false, rxState := .emitErr }))

/-- 60_exceptions.md R123, 42_decoder.md R110: the TransportError entry on the RX side, in every reading state. -/
def Obligations.TransportErrorOnRead : Prop :=
  ∀ (ph : Phase) (s : State),
    (s.rxState = .hdr ∧ s.rxIdx ≤ 1 ∧ ph = .header ∨ s.rxState = .pay ∧ s.rxIdx ≤ 3 ∧ ph = .payload ∨
      s.rxState = .evt ∧ s.rxIdx ≤ 15 ∧ s.rxEvi < s.rxCnt.toNat ∧ ph = .events ∨
      s.rxState = .trailer ∧ ph = .trailer) →
    runTurn (.rx .err) s =
      .next { s with rxOut := some (.transportError ph s.rxNread), running := false, rxState := .emitErr }

/-- 42_decoder.md R103, 60_exceptions.md R125: the two hand-overs; until HOST accepts, DEC keeps the record and reads no
byte. -/
def Obligations.HandOverToHost : Prop :=
  ∀ (r : Record) (s : State), s.rxOut = some r →
    (s.rxState = .emit →
      runTurn .evt s = .next { s with evt := s.evt ++ [r], rxOut := none, rxState := .idle }) ∧
    (s.rxState = .emitErr →
      runTurn .evt s = .next { s with evt := s.evt ++ [r], rxOut := none, rxState := .failed }) ∧
    (s.rxState = .emit ∨ s.rxState = .emitErr →
      runTurn .boundary s = .next s ∧ (∀ a, runTurn (.rx a) s = .next s) ∧
        ∀ bs, runTurns (rxLine bs) s = .next s)

/-- 20_memory.md R37, R39: DEC takes nothing from RXD except in a reading state, one answer or a line of bytes; while a
record waits on EVT it reads no byte. -/
def Obligations.NothingIsReadUnlessAsked : Prop :=
  ∀ (a : RxAnswer) (s : State),
    s.rxState = .idle ∨ s.rxState = .emit ∨ s.rxState = .emitErr ∨ s.rxState = .stopped ∨ s.rxState = .failed →
    runTurn (.rx a) s = .next s ∧ ∀ bs, runTurns (rxLine bs) s = .next s

/-- 42_decoder.md R97 to R108: fed byte by byte, a whole frame does exactly what its instruction does. -/
def Obligations.ByteStepsRunTheFrame : Prop :=
  ∀ (i : Instr) (m : InitLenMode) (bs : List Byte) (s : State), i.request = none → i.wellFormed = true →
    encode m i = some bs → s.rxState = .hdr → s.rxIdx = 0 → feed (bs.map .byte) s = exec i s

/-- 42_decoder.md R112, the spec's own inference from R97 to R103: whatever TRANSPORT answers, the byte steps put the record of the whole-frame function on EVT and
use as many answers as it says: 2, 3, 7 or 7 + 16 * count bytes, or the bytes before an `Err` and the `Err`. Where the
answers stop first there is no record and DEC is held. -/
def Obligations.ByteStepsGiveWholeFrameRecord : Prop :=
  ∀ (as : List RxAnswer) (s : State), s.rxState = .hdr → s.rxIdx = 0 → s.rxNread = 0 →
    ∃ t, feed as s = .next t ∧
      (∀ r, wholeFrame as = some r →
        r.used ≤ as.length ∧ feed (as.take r.used) s = .next t ∧ t.rxOut = some r.record ∧
        (match r.record with
          | .ack .. => r.used = 3 ∧ t.rxState = .emit
          | .nak .. => r.used = 3 ∧ t.rxState = .emit
          | .status .. => r.used = 7 ∧ t.rxState = .emit
          | .dump _ _ _ _ count _ _ _ _ => r.used = 7 + 16 * count.toNat ∧ t.rxState = .emit
          | .unrecognized .. => r.used = 2 ∧ t.rxState = .emit
          | .transportError _ nread => r.used = nread + 1 ∧ t.rxState = .emitErr)) ∧
      (wholeFrame as = none → t.asking = true ∧ t.rxOut = s.rxOut ∧ t.rxNread = as.length)

/-- 10_state.md R33, 42_decoder.md R113, the spec's own inferences from R97 to R103: what DEC's registers held before a frame never reaches the frame's record. -/
def Obligations.OldRegistersNeverReachARecord : Prop :=
  ∀ (as : List RxAnswer) (s₁ s₂ t₁ t₂ : State),
    s₁.rxState = .idle → s₂.rxState = .idle → s₁.running = true → s₂.running = true → s₁.rxOut = s₂.rxOut →
    runTurns (.boundary :: as.map .rx) s₁ = .next t₁ → runTurns (.boundary :: as.map .rx) s₂ = .next t₂ →
    t₁.rxState = t₂.rxState ∧ t₁.rxOut = t₂.rxOut ∧ t₁.rxNread = t₂.rxNread ∧ t₁.running = t₂.running

/-! ### Session control -/

/-- 43_session_control.md R114: HOST.QUIT, accepted, clears `running` and closes ENC; nothing else changes, so no byte goes
out and DEC is not interrupted. Offered elsewhere, it is not accepted. -/
def Obligations.QuitClearsRunning : Prop :=
  ∀ s : State,
    (s.txState = .idle → s.running = true → exec .hostQuit s = .next { s with running := false, txState := .closed }) ∧
    (¬ (s.txState = .idle ∧ s.running = true) → exec .hostQuit s = .next s)

/-- 43_session_control.md R115: ENC's check. -/
def Obligations.EncClosesOnceRunningIsClear : Prop :=
  ∀ s : State,
    (s.txState = .idle ∧ s.running = false → runTurn .encCheck s = .next { s with txState := .closed }) ∧
    (¬ (s.txState = .idle ∧ s.running = false) → runTurn .encCheck s = .next s)

/-- 43_session_control.md R116: DEC's frame-boundary check; RX_STOPPED is terminal until reset. -/
def Obligations.FrameBoundaryCheck : Prop :=
  ∀ s : State,
    (s.rxState = .idle → s.running = true →
      runTurn .boundary s = .next { s with rxState := .hdr, rxIdx := 0, rxNread := 0 }) ∧
    (s.rxState = .idle → s.running = false → runTurn .boundary s = .next { s with rxState := .stopped }) ∧
    (s.rxState ≠ .idle → runTurn .boundary s = .next s) ∧
    (s.rxState = .stopped → ∀ (u : Turn) (t : State), u ≠ .reset → runTurn u s = .next t → t.rxState = .stopped)

/-- 43_session_control.md R117: clearing `running` does not change what DEC makes of the bytes and of HOST's
acceptances that come before it is next at the frame boundary. -/
def Obligations.QuitDoesNotInterruptDec : Prop :=
  ∀ (bs : List Byte) (s : State),
    feed (bs.map .byte) { s with running := false } =
      andThen (feed (bs.map .byte) s) (fun t => .next { t with running := false }) ∧
    runTurn .evt { s with running := false } =
      andThen (runTurn .evt s) (fun t => .next { t with running := false })

/-- 43_session_control.md R118, the spec's own inference from R114, R116 and R9: a quit and DEC's boundary check, in either order, end differently. -/
def Obligations.QuitAndBoundaryRace : Prop :=
  ∀ s : State, s.rxState = .idle → s.txState = .idle → s.running = true →
    (∃ t, runTurns [.cmd .quit, .boundary] s = .next t ∧ t.rxState = .stopped ∧ t.running = false) ∧
    (∃ t, runTurns [.boundary, .cmd .quit] s = .next t ∧ t.rxState = .hdr ∧ t.rxIdx = 0 ∧ t.asking = true ∧
      t.running = false)

/-- 43_session_control.md R120: no turn but RESET sets `running`. -/
def Obligations.RunningIsNeverSetAgain : Prop :=
  ∀ (us : List Turn) (s t : State), (∀ u ∈ us, u ≠ .reset) → s.running = false → runTurns us s = .next t →
    t.running = false

/-- 60_exceptions.md R130, the spec's own inference from R115 to R117, R123 and R124: once an error on one side has cleared `running`, the other side stops at its next check: ENC
sends the rest of a frame in TX_SEND and closes, DEC stops at the frame boundary. -/
def Obligations.ErrorOnOneSideStopsTheOther : Prop :=
  (∀ s : State, s.EncOk → s.running = false → s.txState = .send ∨ s.txState = .idle →
    ∃ t, runTurns (List.replicate (s.txN - s.txI) (.tx .accept) ++ [.encCheck]) s = .next t ∧ t.txState = .closed ∧
      t.tx = s.tx ++ s.txBuf.drop s.txI) ∧
  (∀ s : State, s.rxState = .idle → s.running = false →
    ∃ t, runTurn .boundary s = .next t ∧ t.rxState = .stopped)

/-- 60_exceptions.md R137: under any turn but its collaborator's and RESET, a hold stays and no register of the held agent
is lost in it; nor does the held agent hand over a record or put out a byte. The wait on CMD has one exception: an `Err`
that DEC takes clears `running` (R123), so that ENC no longer waits for a request and closes at its next check
(43_session_control.md R115); it loses no register by that turn either. -/
def Obligations.HoldsWaitForTheirCollaborator : Prop :=
  ∀ (u : Turn) (s t : State), u ≠ .reset → runTurn u s = .next t →
    (s.decHold = some .rxByte → (∀ a, u ≠ .rx a) →
      t.decHold = some .rxByte ∧ s.SameDec t ∧ t.evt = s.evt) ∧
    (s.decHold = some .emit → u ≠ .evt → t.decHold = some .emit ∧ s.SameDec t ∧ t.evt = s.evt) ∧
    (s.encHold = some .txByte → (∀ a, u ≠ .tx a) →
      t.encHold = some .txByte ∧ s.SameEnc t ∧ t.tx = s.tx) ∧
    (s.encHold = some .cmd → (∀ r, u ≠ .cmd r) →
      (t.encHold = some .cmd ∨ u = .rx .err ∧ t.running = false) ∧ s.SameEnc t ∧ t.tx = s.tx)

/-! ### The two agents -/

/-- 20_memory.md R35, 60_exceptions.md R135: the turns that are ENC's leave DEC's registers and the records handed over
as they were, and the turns that are DEC's leave ENC's registers and the TX stream as they were. -/
def Obligations.AgentsTouchOnlyTheirOwn : Prop :=
  (∀ (u : Turn) (s t : State), (u = .encCheck ∨ (∃ r, u = .cmd r) ∨ ∃ a, u = .tx a) → runTurn u s = .next t →
    s.SameDec t ∧ t.evt = s.evt) ∧
  (∀ (u : Turn) (s t : State), (u = .boundary ∨ u = .evt ∨ ∃ a, u = .rx a) → runTurn u s = .next t →
    s.SameEnc t ∧ t.tx = s.tx) ∧
  (∀ (bs : List Byte) (s t : State), runTurns (rxLine bs) s = .next t → s.SameEnc t ∧ t.tx = s.tx)

/-- 20_memory.md R51: an answer to ENC's write has no order with a hand-over, with an answer DEC reads or with a line of
bytes, and an accepted byte none with DEC's boundary check either. That this holds for errors on both sides too is the
spec's own inference in 20_memory.md R54 and 60_exceptions.md R128. The boundary check reads `running`, which an `Err` on
TXD clears: that pair has an order. -/
def Obligations.SendAndReadCommute : Prop :=
  (∀ (a : TxAnswer) (u : Turn) (s : State),
    u = .evt ∨ (∃ x, u = .rx x) ∨ u = .boundary ∧ a = .accept → runTurns [.tx a, u] s = runTurns [u, .tx a] s) ∧
  (∀ (a : TxAnswer) (bs : List Byte) (s : State),
    runTurns (.tx a :: rxLine bs) s = runTurns (rxLine bs ++ [.tx a]) s)

/-! ### The checksum -/

/-- 40_checksum.md R78: CHK leaves the XOR of its bytes, seeded with the first, and changes nothing else. The field that
holds the result and the step that evaluates CHK are the model's choices (log entries 7 and 13). -/
def Obligations.ChkResult : Prop :=
  ∀ (b : Byte) (bs : List Byte) (s : State),
    exec (.chk (b :: bs)) s = .next { s with chkOut := some (bs.foldl (· ^^^ ·) b) }

/-- 40_checksum.md R80: the checksum depends neither on the order nor on the grouping of the bytes, only on how often each
byte stands in the sequence, mod 2. -/
def Obligations.ChecksumIgnoresOrderAndGrouping : Prop :=
  (∀ s t : List Byte, s.Perm t → compute s = compute t) ∧
  (∀ a b : List Byte, a ≠ [] → b ≠ [] → compute (a ++ b) = compute a ^^^ compute b) ∧
  (∀ s t : List Byte, (∀ b, s.count b % 2 = t.count b % 2) → compute s = compute t)

/-- 40_checksum.md R82: a trailer passes if it equals the expected checksum and fails otherwise; equivalently, by the
spec's own inference from R78 and R80, it passes if the XOR of the whole frame is 0x00. -/
def Obligations.TrailerPassesIffWholeXorIsZero : Prop :=
  ∀ (s : List Byte) (trailer : Byte), s ≠ [] →
    (checkTrailer trailer (compute s) = .pass ↔ trailer = compute s) ∧
    (checkTrailer trailer (compute s) = .pass ↔ compute (s ++ [trailer]) = 0x00#8) ∧
    (checkTrailer trailer (compute s) ≠ .pass → checkTrailer trailer (compute s) = .fail)

/-- 40_checksum.md R84, the spec's own inferences from R78 and R80: a change of a frame is missed exactly if its differences XOR to 0x00; bit k of that XOR is the
parity of the changed bits in position k; a change of one byte is always caught. -/
def Obligations.WhatTheChecksumCatches : Prop :=
  (∀ s t : List Byte, s.length = t.length →
    (compute s = compute t ↔ compute (List.zipWith (· ^^^ ·) s t) = 0x00#8) ∧
    (∀ k, k < 8 → ((compute (List.zipWith (· ^^^ ·) s t)).getLsbD k = true ↔
      (List.zipWith (· ^^^ ·) s t).countP (fun d => d.getLsbD k) % 2 = 1))) ∧
  (∀ (a b : List Byte) (x y : Byte), x ≠ y → compute (a ++ x :: b) ≠ compute (a ++ y :: b))

/-! ### Encoding -/

/-- 30_encoding.md R64, R65: decoding an encoded frame gives the instruction back, with every operand at every value:
outbound frames as whole frames, inbound frames as the first frame of any stream. -/
def Obligations.DecodeEncodeAgree : Prop :=
  (∀ (m : InitLenMode) (i : Instr) (bs : List Byte), i.wellFormed = true → i.request.isSome = true →
    encode m i = some bs → decodeFrame bs = .ok i) ∧
  (∀ (m : InitLenMode) (i : Instr) (bs rest : List Byte), i.wellFormed = true → i.request = none →
    encode m i = some bs → decodeInbound (bs ++ rest) = .ok (i, rest))

/-- 30_encoding.md R65 to R67, R72: every inbound byte sequence that is long enough has exactly one meaning: what the
decoder reads is a well-formed frame whose bytes stood first, and it gives up only where bytes are missing. -/
def Obligations.InboundBytesHaveOneMeaning : Prop :=
  (∀ (m : InitLenMode) (bs rest : List Byte) (i : Instr), decodeInbound bs = .ok (i, rest) →
    i.wellFormed = true ∧ i.request = none ∧ ∃ fs, encode m i = some fs ∧ bs = fs ++ rest) ∧
  (∀ (bs : List Byte) (e : DecodeError), decodeInbound bs = .error e → e = .noBytes ∨ e = .truncated) ∧
  (∀ bs : List Byte, 4087 ≤ bs.length → ∃ i rest, decodeInbound bs = .ok (i, rest))

/-- 30_encoding.md R60, R64: the fields of an Init frame, read back at their frame offsets, are the operands. -/
def Obligations.InitFieldsReadBackAtOffsets : Prop :=
  ∀ (m : InitLenMode) (f : InitFields), ∃ (bs : List Byte) (h : 19 ≤ bs.length),
    encode m (.encInit f) = some bs ∧ bs.length = 19 + f.track.length ∧
    bs[0] = 0x01#8 ∧ le16 bs[2] bs[3] = f.pkgId ∧ le16 bs[4] bs[5] = f.reserved ∧ le16 bs[6] bs[7] = f.year ∧
    bs[8] = f.month ∧ bs[9] = f.day ∧ bs[10] = f.weekday ∧ bs[11] = f.hour ∧ bs[12] = f.minute ∧
    bs[13] = f.second ∧ bs[14] = f.carrierCode ∧ bs[15] = f.userCode ∧ bs[16] = f.trackMode ∧
    bs[17] = f.trackLen ∧ (bs.drop 18).take f.track.length = f.track

/-- 30_encoding.md R58 to R63, 95_test_vectors.md: words written out from the spec's encodings decode to the
instructions they stand for. -/
def Obligations.WordsFromTheSpecDecode : Prop :=
  decodeFrame [0x00#8, 0x00#8, 0x00#8] = .ok .encStatus ∧
  decodeFrame [0x02#8, 0x01#8, 0x8A#8, 0x89#8] = .ok (.encDump 0x8A#8) ∧
  decodeFrame [0x80#8, 0x00#8, 0x80#8] = .ok (.decAck 0x00#8 0x80#8) ∧
  decodeFrame [0x8F#8, 0x05#8, 0x8A#8] = .ok (.decNak 0x05#8 0x8A#8) ∧
  decodeFrame [0x81#8, 0x04#8, 0x34#8, 0x12#8, 0x01#8, 0x00#8, 0xA2#8]
    = .ok (.decStatus 0x04#8 #v[0x34#8, 0x12#8, 0x01#8, 0x00#8] 0xA2#8) ∧
  decodeFrame [0x82#8, 0x04#8, 0x34#8, 0x12#8, 0x00#8, 0x00#8, 0xA0#8]
    = .ok (.decDump 0x04#8 #v[0x34#8, 0x12#8, 0x00#8, 0x00#8] [] 0xA0#8) ∧
  decodeFrame [0x7F#8, 0xFF#8] = .ok (.decUnrecognized 0x7F#8 0xFF#8)

/-! ### The step -/

/-- The steps run the decoded instruction. Where the next turn offers a command request on CMD, the step is that request's
instruction. Where DEC asks for a first header byte and the next turns offer the bytes of one whole frame, one to a turn,
as many steps as the frame has bytes are that frame's instruction. The turns taken are off the schedule (log entries 2
and 11). -/
def Obligations.StepRunsTheDecodedInstruction : Prop :=
  (∀ (s : State) (r : Request) (rest : List Turn), s.sched = .cmd r :: rest →
    step s = exec r.instr { s with sched := rest }) ∧
  (∀ (s : State) (bs : List Byte) (rest : List Turn) (i : Instr), s.sched = rxLine bs ++ rest →
    s.rxState = .hdr → s.rxIdx = 0 → decodeInbound bs = .ok (i, []) →
    Sys2Proof.core.run bs.length s = exec i { s with sched := rest })

/-- The state made for a table word runs that word's instruction at its next step, whatever the state was: a request where
ENC is ready, a frame with the outcome it has where DEC asks for a first header byte (log entry 11). -/
def Obligations.FetchWordRunsTheTableInstruction : Prop :=
  ∀ (s : State) (nbits w : Nat) (i : Instr), decodeTableWord nbits w = some i →
    (∀ r, i.request = some r →
      step (s.withFetchWord nbits w) = exec i { s with running := true, txState := .idle } ∧
      (i.wellFormed = true → ∃ t, step (s.withFetchWord nbits w) = .next t ∧ t.txState = .send)) ∧
    (i.request = none →
      step (s.withFetchWord nbits w) = exec i s.enterHeader ∧
      (i.wellFormed = true → ∃ t, step (s.withFetchWord nbits w) = .next t ∧ t.rxState = .emit ∧ t.rxOut.isSome))

/-! ### The invariant -/

/-- The invariant holds after reset. -/
def Obligations.InvariantHoldsAtReset : Prop := State.reset.Inv

/-- Every step keeps the invariant: the running checksum is the checksum of the bytes read (40_checksum.md R83,
42_decoder.md R102), the counters stay in their ranges (10_state.md R17, R19), ENC's buffer is a frame that passes
(41_encoder.md R94), and every record handed over is consistent (42_decoder.md R102). -/
def Obligations.EveryStepKeepsTheInvariant : Prop :=
  ∀ s t : State, s.Inv → step s = .next t → t.Inv

/-- No step from a state of the invariant faults. -/
def Obligations.InvariantStatesNeverFault : Prop :=
  ∀ s : State, s.Inv → safeOutcome (step s)

/-- 41_encoder.md R87: the only request the machine refuses is an over-long Init. That it refuses one only where ENC would
take it is the model's choice (log entry 6). -/
def Obligations.OnlyAnOverlongInitIsRefused : Prop :=
  ∀ (s : State) (e : Refusal), step s = .refused e →
    e = .trackTooLong ∧ ∃ f, s.nextTurn = .cmd (.init f) ∧ Config.maxTrackLen < f.track.length ∧
      s.txState = .idle ∧ s.running = true

/-! ### Ports and errors -/

/-- 10_state.md R18, R20, R25: the codes on the level ports, and the three status registers. -/
def Obligations.LevelPortsShowTheRegisters : Prop :=
  ∀ s : State,
    (s.runningPort.toNat = 1 ↔ s.running = true) ∧
    (s.txStatePort.toNat = match s.txState with | .idle => 0 | .send => 1 | .closed => 2 | .failed => 3) ∧
    (s.rxStatePort.toNat = match s.rxState with
      | .idle => 0 | .hdr => 1 | .pay => 2 | .evt => 3 | .trailer => 4 | .emit => 5 | .emitErr => 6 | .stopped => 7
      | .failed => 8) ∧
    s.statusRegister 0 = some s.runningPort.toNat ∧ s.statusRegister 1 = some s.txStatePort.toNat ∧
    s.statusRegister 2 = some s.rxStatePort.toNat

/-- 60_exceptions.md R121: the error classes the records report, with their codes and which are fatal; a record whose
trailer passed reports none; class 5 is never raised. -/
def Obligations.ErrorClassesOfRecords : Prop :=
  (∀ ph n, (Record.transportError ph n).cause = some .transportRx) ∧
  (∀ t len o, (Record.unrecognized t len o).cause = some .unrecognizedFrameType) ∧
  (∀ r : Record, r.outcome = some .fail → r.kind ≠ .unrecognized → r.cause = some .checksumMismatch) ∧
  (∀ r : Record, r.outcome = some .pass → r.kind ≠ .unrecognized → r.cause = none) ∧
  (∀ r : Record, r.cause ≠ some .protocolShape) ∧
  (∀ c : Cause, c.fatal = true ↔ c = .transportRx ∨ c = .transportTx) ∧
  Cause.transportRx.code = 1 ∧ Cause.transportTx.code = 2 ∧ Cause.checksumMismatch.code = 3 ∧
  Cause.unrecognizedFrameType.code = 4 ∧ Cause.protocolShape.code = 5

/-! ### What a step is -/

/-- 00_scope.md R9: a step is one transition of one agent. But for RESET, a step from a state of the invariant takes at
most one byte, gives at most the byte on offer, hands over at most the record that waits, touches the registers of one
agent at most, and takes one turn off the schedule. A step that evaluates CHK, which the spec gives no step, is none of
R9's transitions and touches no register and no stream of either agent, `running` included (the model's choice, log entry
13). -/
def Obligations.StepIsOneAtomicTransition : Prop :=
  ∀ s t : State, s.Inv → s.nextTurn ≠ .reset → step s = .next t →
    t.rxNread ≤ s.rxNread + 1 ∧
    (t.tx = s.tx ∨ ∃ b, s.offered = some b ∧ t.tx = s.tx ++ [b]) ∧
    (t.evt = s.evt ∨ ∃ r, s.rxOut = some r ∧ t.evt = s.evt ++ [r]) ∧
    (s.SameDec t ∧ t.evt = s.evt ∨ s.SameEnc t ∧ t.tx = s.tx) ∧
    t.sched = s.sched.drop 1 ∧
    ∀ bs, s.nextTurn = .chk bs → s.SameDec t ∧ s.SameEnc t ∧ t.tx = s.tx ∧ t.evt = s.evt ∧ t.running = s.running
end

