-- ==== Sys2Proof/Laws/Checksum.lean ====
section
/-! SUPPORT. The checksum, one byte at a time (40_checksum.md R78, R79, R83). -/

namespace Sys2Proof.Machine

/-- A fold of XOR from `a` is `a` combined with the fold from zero. -/
theorem foldl_xor (bs : List Byte) (a : Byte) : bs.foldl (· ^^^ ·) a = a ^^^ bs.foldl (· ^^^ ·) 0x00#8 := by
  induction bs generalizing a with
  | nil => simp
  | cons b bs ih =>
    simp only [List.foldl_cons]
    rw [ih (a ^^^ b), ih (0x00#8 ^^^ b)]
    simp [BitVec.xor_assoc]

@[simp] theorem compute_nil : compute [] = 0x00#8 := rfl

/-- 40_checksum.md R79: the fold from zero. -/
theorem compute_eq_foldl (bs : List Byte) : compute bs = bs.foldl (· ^^^ ·) 0x00#8 := by
  cases bs with
  | nil => rfl
  | cons b bs => simp [compute]

/-- The first byte apart from the rest. -/
theorem compute_cons (b : Byte) (bs : List Byte) : compute (b :: bs) = b ^^^ compute bs := by
  rw [compute_eq_foldl bs]
  exact foldl_xor bs b

/-- 40_checksum.md R83: one more byte at the end. -/
theorem compute_concat (bs : List Byte) (b : Byte) : compute (bs ++ [b]) = compute bs ^^^ b := by
  rw [compute_eq_foldl, compute_eq_foldl, List.foldl_append]
  rfl

/-- The trailer check, by cases. -/
theorem checkTrailer_cases (t e : Byte) :
    t = e ∧ checkTrailer t e = .pass ∨ t ≠ e ∧ checkTrailer t e = .fail := by
  by_cases h : t = e
  · exact .inl ⟨h, by simp [checkTrailer, h]⟩
  · exact .inr ⟨h, by simp [checkTrailer, h]⟩

end Sys2Proof.Machine
end

