-- ==== Sys2Proof/Laws/Decode.lean ====
section
/-! SUPPORT. What the shared parts of the decoder read (30_encoding.md R63, R67): event records, trailers, and the end of a
frame. -/

namespace Sys2Proof

open Sys2Proof.Machine

/-- A record's own bytes, and whatever follows, give the record back. -/
@[simp] theorem takeRecord_append (r : RawEvent) (rest : List Byte) :
    takeRecord (r.toList ++ rest) = some (r, rest) := by
  unfold takeRecord
  rw [if_pos (by simp)]
  congr 2
  · ext i hi
    simp [List.getElem?_append]
  · rw [List.drop_append]
    simp

/-- What takeRecord answers was read from the first 16 bytes. -/
theorem takeRecord_eq_some {bs rest : List Byte} {r : RawEvent} (h : takeRecord bs = some (r, rest)) :
    bs = r.toList ++ rest := by
  unfold takeRecord at h
  split at h
  · rename_i hlen
    simp only [Option.some.injEq, Prod.mk.injEq] at h
    obtain ⟨rfl, rfl⟩ := h
    conv_lhs => rw [← List.take_append_drop 16 bs]
    congr 1
    apply List.ext_getElem
    · simp [hlen]
    · intro i h1 h2
      simp only [List.length_take] at h1
      have : i < bs.length := by omega
      simp [this]
  · cases h

/-- takeRecord answers unless fewer than 16 bytes are left. -/
theorem takeRecord_eq_none {bs : List Byte} : takeRecord bs = none ↔ bs.length < 16 := by
  unfold takeRecord
  split <;> simp <;> omega

/-- The records' own bytes, and whatever follows, give the records back. -/
theorem takeRecords_append (rs : List RawEvent) (rest : List Byte) :
    takeRecords rs.length (rs.flatMap (fun r => r.toList) ++ rest) = some (rs, rest) := by
  induction rs with
  | nil => rfl
  | cons r rs ih => simp [takeRecords, ih]

/-- What takeRecords answers was read from the first bytes, 16 to a record. -/
theorem takeRecords_eq_some {n : Nat} {bs rest : List Byte} {rs : List RawEvent}
    (h : takeRecords n bs = some (rs, rest)) : rs.length = n ∧ bs = rs.flatMap (fun r => r.toList) ++ rest := by
  induction n generalizing bs rs with
  | zero =>
    simp only [takeRecords, Option.some.injEq, Prod.mk.injEq] at h
    obtain ⟨rfl, rfl⟩ := h
    simp
  | succ n ih =>
    unfold takeRecords at h
    split at h
    · cases h
    · rename_i r bs' hr
      split at h
      · cases h
      · rename_i rs' bs'' hrs
        simp only [Option.some.injEq, Prod.mk.injEq] at h
        obtain ⟨rfl, rfl⟩ := h
        obtain ⟨hl, rfl⟩ := ih hrs
        exact ⟨by simp [hl], by simp [takeRecord_eq_some hr]⟩

/-- takeRecords answers unless bytes are missing. -/
theorem takeRecords_eq_none {n : Nat} {bs : List Byte} : takeRecords n bs = none ↔ bs.length < 16 * n := by
  induction n generalizing bs with
  | zero => simp [takeRecords]
  | succ n ih =>
    unfold takeRecords
    split
    · rename_i h
      have := takeRecord_eq_none.mp h
      simp
      omega
    · rename_i r bs' h
      have hlen : bs.length = 16 + bs'.length := by simp [takeRecord_eq_some h]
      split
      · rename_i h'
        have := ih.mp h'
        simp
        omega
      · rename_i h'
        have : ¬ bs'.length < 16 * n := fun hlt => by simp [ih.mpr hlt] at h'
        simp
        omega

@[simp] theorem decodeTrailer_cons (mk : Byte → Instr) (ck : Byte) (rest : List Byte) :
    decodeTrailer mk (ck :: rest) = .ok (mk ck, rest) := rfl

/-- The end of a frame, by cases. -/
theorem exactly_eq_ok {x : Except DecodeError (Instr × List Byte)} {i : Instr} :
    exactly x = .ok i ↔ x = .ok (i, []) := by
  unfold exactly
  split <;> simp

/-- A table word's bytes, counted. -/
@[simp] theorem wordBytes_length (n w : Nat) : (wordBytes n w).length = n := by
  induction n generalizing w with
  | zero => rfl
  | succ n ih => simp [wordBytes, ih]

end Sys2Proof
end

