-- ==== Sys2Proof/Laws/State.lean ====
section
/-! SUPPORT. What each named update of the state does to each field, one lemma per field, true by rfl. -/

namespace Sys2Proof.Machine

/-! ### State.loadFrame -/

@[simp] theorem State.loadFrame_running (buf : List Byte) (s : State) : (s.loadFrame buf).running = s.running := rfl
@[simp] theorem State.loadFrame_txState (buf : List Byte) (s : State) : (s.loadFrame buf).txState = .send := rfl
@[simp] theorem State.loadFrame_txBuf (buf : List Byte) (s : State) : (s.loadFrame buf).txBuf = buf := rfl
@[simp] theorem State.loadFrame_txN (buf : List Byte) (s : State) : (s.loadFrame buf).txN = buf.length := rfl
@[simp] theorem State.loadFrame_txI (buf : List Byte) (s : State) : (s.loadFrame buf).txI = 0 := rfl
@[simp] theorem State.loadFrame_rxState (buf : List Byte) (s : State) : (s.loadFrame buf).rxState = s.rxState := rfl
@[simp] theorem State.loadFrame_rxType (buf : List Byte) (s : State) : (s.loadFrame buf).rxType = s.rxType := rfl
@[simp] theorem State.loadFrame_rxLen (buf : List Byte) (s : State) : (s.loadFrame buf).rxLen = s.rxLen := rfl
@[simp] theorem State.loadFrame_rxAcc (buf : List Byte) (s : State) : (s.loadFrame buf).rxAcc = s.rxAcc := rfl
@[simp] theorem State.loadFrame_rxIdx (buf : List Byte) (s : State) : (s.loadFrame buf).rxIdx = s.rxIdx := rfl
@[simp] theorem State.loadFrame_rxHdr (buf : List Byte) (s : State) : (s.loadFrame buf).rxHdr = s.rxHdr := rfl
@[simp] theorem State.loadFrame_rxCnt (buf : List Byte) (s : State) : (s.loadFrame buf).rxCnt = s.rxCnt := rfl
@[simp] theorem State.loadFrame_rxEvi (buf : List Byte) (s : State) : (s.loadFrame buf).rxEvi = s.rxEvi := rfl
@[simp] theorem State.loadFrame_rxRec (buf : List Byte) (s : State) : (s.loadFrame buf).rxRec = s.rxRec := rfl
@[simp] theorem State.loadFrame_rxEvents (buf : List Byte) (s : State) : (s.loadFrame buf).rxEvents = s.rxEvents := rfl
@[simp] theorem State.loadFrame_rxChk (buf : List Byte) (s : State) : (s.loadFrame buf).rxChk = s.rxChk := rfl
@[simp] theorem State.loadFrame_rxNread (buf : List Byte) (s : State) : (s.loadFrame buf).rxNread = s.rxNread := rfl
@[simp] theorem State.loadFrame_rxOut (buf : List Byte) (s : State) : (s.loadFrame buf).rxOut = s.rxOut := rfl
@[simp] theorem State.loadFrame_tx (buf : List Byte) (s : State) : (s.loadFrame buf).tx = s.tx := rfl
@[simp] theorem State.loadFrame_evt (buf : List Byte) (s : State) : (s.loadFrame buf).evt = s.evt := rfl
@[simp] theorem State.loadFrame_chkOut (buf : List Byte) (s : State) : (s.loadFrame buf).chkOut = s.chkOut := rfl
@[simp] theorem State.loadFrame_initLenMode (buf : List Byte) (s : State) : (s.loadFrame buf).initLenMode = s.initLenMode := rfl
@[simp] theorem State.loadFrame_sched (buf : List Byte) (s : State) : (s.loadFrame buf).sched = s.sched := rfl
@[simp] theorem State.loadFrame_tick (buf : List Byte) (s : State) : (s.loadFrame buf).tick = s.tick := rfl

/-! ### State.sendByte -/

@[simp] theorem State.sendByte_running (b : Byte) (s : State) : (s.sendByte b).running = s.running := rfl
@[simp] theorem State.sendByte_txState (b : Byte) (s : State) : (s.sendByte b).txState = (if s.txI + 1 = s.txN then .idle else s.txState) := rfl
@[simp] theorem State.sendByte_txBuf (b : Byte) (s : State) : (s.sendByte b).txBuf = s.txBuf := rfl
@[simp] theorem State.sendByte_txN (b : Byte) (s : State) : (s.sendByte b).txN = s.txN := rfl
@[simp] theorem State.sendByte_txI (b : Byte) (s : State) : (s.sendByte b).txI = s.txI + 1 := rfl
@[simp] theorem State.sendByte_rxState (b : Byte) (s : State) : (s.sendByte b).rxState = s.rxState := rfl
@[simp] theorem State.sendByte_rxType (b : Byte) (s : State) : (s.sendByte b).rxType = s.rxType := rfl
@[simp] theorem State.sendByte_rxLen (b : Byte) (s : State) : (s.sendByte b).rxLen = s.rxLen := rfl
@[simp] theorem State.sendByte_rxAcc (b : Byte) (s : State) : (s.sendByte b).rxAcc = s.rxAcc := rfl
@[simp] theorem State.sendByte_rxIdx (b : Byte) (s : State) : (s.sendByte b).rxIdx = s.rxIdx := rfl
@[simp] theorem State.sendByte_rxHdr (b : Byte) (s : State) : (s.sendByte b).rxHdr = s.rxHdr := rfl
@[simp] theorem State.sendByte_rxCnt (b : Byte) (s : State) : (s.sendByte b).rxCnt = s.rxCnt := rfl
@[simp] theorem State.sendByte_rxEvi (b : Byte) (s : State) : (s.sendByte b).rxEvi = s.rxEvi := rfl
@[simp] theorem State.sendByte_rxRec (b : Byte) (s : State) : (s.sendByte b).rxRec = s.rxRec := rfl
@[simp] theorem State.sendByte_rxEvents (b : Byte) (s : State) : (s.sendByte b).rxEvents = s.rxEvents := rfl
@[simp] theorem State.sendByte_rxChk (b : Byte) (s : State) : (s.sendByte b).rxChk = s.rxChk := rfl
@[simp] theorem State.sendByte_rxNread (b : Byte) (s : State) : (s.sendByte b).rxNread = s.rxNread := rfl
@[simp] theorem State.sendByte_rxOut (b : Byte) (s : State) : (s.sendByte b).rxOut = s.rxOut := rfl
@[simp] theorem State.sendByte_tx (b : Byte) (s : State) : (s.sendByte b).tx = s.tx ++ [b] := rfl
@[simp] theorem State.sendByte_evt (b : Byte) (s : State) : (s.sendByte b).evt = s.evt := rfl
@[simp] theorem State.sendByte_chkOut (b : Byte) (s : State) : (s.sendByte b).chkOut = s.chkOut := rfl
@[simp] theorem State.sendByte_initLenMode (b : Byte) (s : State) : (s.sendByte b).initLenMode = s.initLenMode := rfl
@[simp] theorem State.sendByte_sched (b : Byte) (s : State) : (s.sendByte b).sched = s.sched := rfl
@[simp] theorem State.sendByte_tick (b : Byte) (s : State) : (s.sendByte b).tick = s.tick := rfl

/-! ### State.readHeader -/

@[simp] theorem State.readHeader_running (t len : Byte) (s : State) : (s.readHeader t len).running = s.running := rfl
@[simp] theorem State.readHeader_txState (t len : Byte) (s : State) : (s.readHeader t len).txState = s.txState := rfl
@[simp] theorem State.readHeader_txBuf (t len : Byte) (s : State) : (s.readHeader t len).txBuf = s.txBuf := rfl
@[simp] theorem State.readHeader_txN (t len : Byte) (s : State) : (s.readHeader t len).txN = s.txN := rfl
@[simp] theorem State.readHeader_txI (t len : Byte) (s : State) : (s.readHeader t len).txI = s.txI := rfl
@[simp] theorem State.readHeader_rxState (t len : Byte) (s : State) : (s.readHeader t len).rxState = s.rxState := rfl
@[simp] theorem State.readHeader_rxType (t len : Byte) (s : State) : (s.readHeader t len).rxType = t := rfl
@[simp] theorem State.readHeader_rxLen (t len : Byte) (s : State) : (s.readHeader t len).rxLen = len := rfl
@[simp] theorem State.readHeader_rxAcc (t len : Byte) (s : State) : (s.readHeader t len).rxAcc = compute [t, len] := rfl
@[simp] theorem State.readHeader_rxIdx (t len : Byte) (s : State) : (s.readHeader t len).rxIdx = 1 := rfl
@[simp] theorem State.readHeader_rxHdr (t len : Byte) (s : State) : (s.readHeader t len).rxHdr = s.rxHdr := rfl
@[simp] theorem State.readHeader_rxCnt (t len : Byte) (s : State) : (s.readHeader t len).rxCnt = s.rxCnt := rfl
@[simp] theorem State.readHeader_rxEvi (t len : Byte) (s : State) : (s.readHeader t len).rxEvi = s.rxEvi := rfl
@[simp] theorem State.readHeader_rxRec (t len : Byte) (s : State) : (s.readHeader t len).rxRec = s.rxRec := rfl
@[simp] theorem State.readHeader_rxEvents (t len : Byte) (s : State) : (s.readHeader t len).rxEvents = s.rxEvents := rfl
@[simp] theorem State.readHeader_rxChk (t len : Byte) (s : State) : (s.readHeader t len).rxChk = s.rxChk := rfl
@[simp] theorem State.readHeader_rxNread (t len : Byte) (s : State) : (s.readHeader t len).rxNread = 2 := rfl
@[simp] theorem State.readHeader_rxOut (t len : Byte) (s : State) : (s.readHeader t len).rxOut = s.rxOut := rfl
@[simp] theorem State.readHeader_tx (t len : Byte) (s : State) : (s.readHeader t len).tx = s.tx := rfl
@[simp] theorem State.readHeader_evt (t len : Byte) (s : State) : (s.readHeader t len).evt = s.evt := rfl
@[simp] theorem State.readHeader_chkOut (t len : Byte) (s : State) : (s.readHeader t len).chkOut = s.chkOut := rfl
@[simp] theorem State.readHeader_initLenMode (t len : Byte) (s : State) : (s.readHeader t len).initLenMode = s.initLenMode := rfl
@[simp] theorem State.readHeader_sched (t len : Byte) (s : State) : (s.readHeader t len).sched = s.sched := rfl
@[simp] theorem State.readHeader_tick (t len : Byte) (s : State) : (s.readHeader t len).tick = s.tick := rfl

/-! ### State.readPayload -/

@[simp] theorem State.readPayload_running (q : Quad) (s : State) : (s.readPayload q).running = s.running := rfl
@[simp] theorem State.readPayload_txState (q : Quad) (s : State) : (s.readPayload q).txState = s.txState := rfl
@[simp] theorem State.readPayload_txBuf (q : Quad) (s : State) : (s.readPayload q).txBuf = s.txBuf := rfl
@[simp] theorem State.readPayload_txN (q : Quad) (s : State) : (s.readPayload q).txN = s.txN := rfl
@[simp] theorem State.readPayload_txI (q : Quad) (s : State) : (s.readPayload q).txI = s.txI := rfl
@[simp] theorem State.readPayload_rxState (q : Quad) (s : State) : (s.readPayload q).rxState = s.rxState := rfl
@[simp] theorem State.readPayload_rxType (q : Quad) (s : State) : (s.readPayload q).rxType = s.rxType := rfl
@[simp] theorem State.readPayload_rxLen (q : Quad) (s : State) : (s.readPayload q).rxLen = s.rxLen := rfl
@[simp] theorem State.readPayload_rxAcc (q : Quad) (s : State) : (s.readPayload q).rxAcc = s.rxAcc ^^^ compute q.toList := rfl
@[simp] theorem State.readPayload_rxIdx (q : Quad) (s : State) : (s.readPayload q).rxIdx = 3 := rfl
@[simp] theorem State.readPayload_rxHdr (q : Quad) (s : State) : (s.readPayload q).rxHdr = q := rfl
@[simp] theorem State.readPayload_rxCnt (q : Quad) (s : State) : (s.readPayload q).rxCnt = s.rxCnt := rfl
@[simp] theorem State.readPayload_rxEvi (q : Quad) (s : State) : (s.readPayload q).rxEvi = s.rxEvi := rfl
@[simp] theorem State.readPayload_rxRec (q : Quad) (s : State) : (s.readPayload q).rxRec = s.rxRec := rfl
@[simp] theorem State.readPayload_rxEvents (q : Quad) (s : State) : (s.readPayload q).rxEvents = s.rxEvents := rfl
@[simp] theorem State.readPayload_rxChk (q : Quad) (s : State) : (s.readPayload q).rxChk = s.rxChk := rfl
@[simp] theorem State.readPayload_rxNread (q : Quad) (s : State) : (s.readPayload q).rxNread = s.rxNread + 4 := rfl
@[simp] theorem State.readPayload_rxOut (q : Quad) (s : State) : (s.readPayload q).rxOut = s.rxOut := rfl
@[simp] theorem State.readPayload_tx (q : Quad) (s : State) : (s.readPayload q).tx = s.tx := rfl
@[simp] theorem State.readPayload_evt (q : Quad) (s : State) : (s.readPayload q).evt = s.evt := rfl
@[simp] theorem State.readPayload_chkOut (q : Quad) (s : State) : (s.readPayload q).chkOut = s.chkOut := rfl
@[simp] theorem State.readPayload_initLenMode (q : Quad) (s : State) : (s.readPayload q).initLenMode = s.initLenMode := rfl
@[simp] theorem State.readPayload_sched (q : Quad) (s : State) : (s.readPayload q).sched = s.sched := rfl
@[simp] theorem State.readPayload_tick (q : Quad) (s : State) : (s.readPayload q).tick = s.tick := rfl

/-! ### State.readRecords -/

@[simp] theorem State.readRecords_running (rs : List RawEvent) (s : State) : (s.readRecords rs).running = s.running := rfl
@[simp] theorem State.readRecords_txState (rs : List RawEvent) (s : State) : (s.readRecords rs).txState = s.txState := rfl
@[simp] theorem State.readRecords_txBuf (rs : List RawEvent) (s : State) : (s.readRecords rs).txBuf = s.txBuf := rfl
@[simp] theorem State.readRecords_txN (rs : List RawEvent) (s : State) : (s.readRecords rs).txN = s.txN := rfl
@[simp] theorem State.readRecords_txI (rs : List RawEvent) (s : State) : (s.readRecords rs).txI = s.txI := rfl
@[simp] theorem State.readRecords_rxState (rs : List RawEvent) (s : State) : (s.readRecords rs).rxState = s.rxState := rfl
@[simp] theorem State.readRecords_rxType (rs : List RawEvent) (s : State) : (s.readRecords rs).rxType = s.rxType := rfl
@[simp] theorem State.readRecords_rxLen (rs : List RawEvent) (s : State) : (s.readRecords rs).rxLen = s.rxLen := rfl
@[simp] theorem State.readRecords_rxAcc (rs : List RawEvent) (s : State) : (s.readRecords rs).rxAcc = s.rxAcc ^^^ compute (rs.flatMap fun r => r.toList) := rfl
@[simp] theorem State.readRecords_rxIdx (rs : List RawEvent) (s : State) : (s.readRecords rs).rxIdx = (if rs.isEmpty then s.rxIdx else 0) := rfl
@[simp] theorem State.readRecords_rxHdr (rs : List RawEvent) (s : State) : (s.readRecords rs).rxHdr = s.rxHdr := rfl
@[simp] theorem State.readRecords_rxCnt (rs : List RawEvent) (s : State) : (s.readRecords rs).rxCnt = s.rxHdr[2] := rfl
@[simp] theorem State.readRecords_rxEvi (rs : List RawEvent) (s : State) : (s.readRecords rs).rxEvi = rs.length := rfl
@[simp] theorem State.readRecords_rxRec (rs : List RawEvent) (s : State) : (s.readRecords rs).rxRec = rs.getLastD s.rxRec := rfl
@[simp] theorem State.readRecords_rxEvents (rs : List RawEvent) (s : State) : (s.readRecords rs).rxEvents = rs.map decodeEvent := rfl
@[simp] theorem State.readRecords_rxChk (rs : List RawEvent) (s : State) : (s.readRecords rs).rxChk = s.rxChk := rfl
@[simp] theorem State.readRecords_rxNread (rs : List RawEvent) (s : State) : (s.readRecords rs).rxNread = s.rxNread + 16 * rs.length := rfl
@[simp] theorem State.readRecords_rxOut (rs : List RawEvent) (s : State) : (s.readRecords rs).rxOut = s.rxOut := rfl
@[simp] theorem State.readRecords_tx (rs : List RawEvent) (s : State) : (s.readRecords rs).tx = s.tx := rfl
@[simp] theorem State.readRecords_evt (rs : List RawEvent) (s : State) : (s.readRecords rs).evt = s.evt := rfl
@[simp] theorem State.readRecords_chkOut (rs : List RawEvent) (s : State) : (s.readRecords rs).chkOut = s.chkOut := rfl
@[simp] theorem State.readRecords_initLenMode (rs : List RawEvent) (s : State) : (s.readRecords rs).initLenMode = s.initLenMode := rfl
@[simp] theorem State.readRecords_sched (rs : List RawEvent) (s : State) : (s.readRecords rs).sched = s.sched := rfl
@[simp] theorem State.readRecords_tick (rs : List RawEvent) (s : State) : (s.readRecords rs).tick = s.tick := rfl

/-! ### State.readTrailer -/

@[simp] theorem State.readTrailer_running (ck : Byte) (r : Record) (s : State) : (s.readTrailer ck r).running = s.running := rfl
@[simp] theorem State.readTrailer_txState (ck : Byte) (r : Record) (s : State) : (s.readTrailer ck r).txState = s.txState := rfl
@[simp] theorem State.readTrailer_txBuf (ck : Byte) (r : Record) (s : State) : (s.readTrailer ck r).txBuf = s.txBuf := rfl
@[simp] theorem State.readTrailer_txN (ck : Byte) (r : Record) (s : State) : (s.readTrailer ck r).txN = s.txN := rfl
@[simp] theorem State.readTrailer_txI (ck : Byte) (r : Record) (s : State) : (s.readTrailer ck r).txI = s.txI := rfl
@[simp] theorem State.readTrailer_rxState (ck : Byte) (r : Record) (s : State) : (s.readTrailer ck r).rxState = .emit := rfl
@[simp] theorem State.readTrailer_rxType (ck : Byte) (r : Record) (s : State) : (s.readTrailer ck r).rxType = s.rxType := rfl
@[simp] theorem State.readTrailer_rxLen (ck : Byte) (r : Record) (s : State) : (s.readTrailer ck r).rxLen = s.rxLen := rfl
@[simp] theorem State.readTrailer_rxAcc (ck : Byte) (r : Record) (s : State) : (s.readTrailer ck r).rxAcc = s.rxAcc := rfl
@[simp] theorem State.readTrailer_rxIdx (ck : Byte) (r : Record) (s : State) : (s.readTrailer ck r).rxIdx = s.rxIdx := rfl
@[simp] theorem State.readTrailer_rxHdr (ck : Byte) (r : Record) (s : State) : (s.readTrailer ck r).rxHdr = s.rxHdr := rfl
@[simp] theorem State.readTrailer_rxCnt (ck : Byte) (r : Record) (s : State) : (s.readTrailer ck r).rxCnt = s.rxCnt := rfl
@[simp] theorem State.readTrailer_rxEvi (ck : Byte) (r : Record) (s : State) : (s.readTrailer ck r).rxEvi = s.rxEvi := rfl
@[simp] theorem State.readTrailer_rxRec (ck : Byte) (r : Record) (s : State) : (s.readTrailer ck r).rxRec = s.rxRec := rfl
@[simp] theorem State.readTrailer_rxEvents (ck : Byte) (r : Record) (s : State) : (s.readTrailer ck r).rxEvents = s.rxEvents := rfl
@[simp] theorem State.readTrailer_rxChk (ck : Byte) (r : Record) (s : State) : (s.readTrailer ck r).rxChk = ck := rfl
@[simp] theorem State.readTrailer_rxNread (ck : Byte) (r : Record) (s : State) : (s.readTrailer ck r).rxNread = s.rxNread + 1 := rfl
@[simp] theorem State.readTrailer_rxOut (ck : Byte) (r : Record) (s : State) : (s.readTrailer ck r).rxOut = some r := rfl
@[simp] theorem State.readTrailer_tx (ck : Byte) (r : Record) (s : State) : (s.readTrailer ck r).tx = s.tx := rfl
@[simp] theorem State.readTrailer_evt (ck : Byte) (r : Record) (s : State) : (s.readTrailer ck r).evt = s.evt := rfl
@[simp] theorem State.readTrailer_chkOut (ck : Byte) (r : Record) (s : State) : (s.readTrailer ck r).chkOut = s.chkOut := rfl
@[simp] theorem State.readTrailer_initLenMode (ck : Byte) (r : Record) (s : State) : (s.readTrailer ck r).initLenMode = s.initLenMode := rfl
@[simp] theorem State.readTrailer_sched (ck : Byte) (r : Record) (s : State) : (s.readTrailer ck r).sched = s.sched := rfl
@[simp] theorem State.readTrailer_tick (ck : Byte) (r : Record) (s : State) : (s.readTrailer ck r).tick = s.tick := rfl

/-! ### State.waitRecord -/

@[simp] theorem State.waitRecord_running (r : Record) (s : State) : (s.waitRecord r).running = s.running := rfl
@[simp] theorem State.waitRecord_txState (r : Record) (s : State) : (s.waitRecord r).txState = s.txState := rfl
@[simp] theorem State.waitRecord_txBuf (r : Record) (s : State) : (s.waitRecord r).txBuf = s.txBuf := rfl
@[simp] theorem State.waitRecord_txN (r : Record) (s : State) : (s.waitRecord r).txN = s.txN := rfl
@[simp] theorem State.waitRecord_txI (r : Record) (s : State) : (s.waitRecord r).txI = s.txI := rfl
@[simp] theorem State.waitRecord_rxState (r : Record) (s : State) : (s.waitRecord r).rxState = .emit := rfl
@[simp] theorem State.waitRecord_rxType (r : Record) (s : State) : (s.waitRecord r).rxType = s.rxType := rfl
@[simp] theorem State.waitRecord_rxLen (r : Record) (s : State) : (s.waitRecord r).rxLen = s.rxLen := rfl
@[simp] theorem State.waitRecord_rxAcc (r : Record) (s : State) : (s.waitRecord r).rxAcc = s.rxAcc := rfl
@[simp] theorem State.waitRecord_rxIdx (r : Record) (s : State) : (s.waitRecord r).rxIdx = s.rxIdx := rfl
@[simp] theorem State.waitRecord_rxHdr (r : Record) (s : State) : (s.waitRecord r).rxHdr = s.rxHdr := rfl
@[simp] theorem State.waitRecord_rxCnt (r : Record) (s : State) : (s.waitRecord r).rxCnt = s.rxCnt := rfl
@[simp] theorem State.waitRecord_rxEvi (r : Record) (s : State) : (s.waitRecord r).rxEvi = s.rxEvi := rfl
@[simp] theorem State.waitRecord_rxRec (r : Record) (s : State) : (s.waitRecord r).rxRec = s.rxRec := rfl
@[simp] theorem State.waitRecord_rxEvents (r : Record) (s : State) : (s.waitRecord r).rxEvents = s.rxEvents := rfl
@[simp] theorem State.waitRecord_rxChk (r : Record) (s : State) : (s.waitRecord r).rxChk = s.rxChk := rfl
@[simp] theorem State.waitRecord_rxNread (r : Record) (s : State) : (s.waitRecord r).rxNread = s.rxNread := rfl
@[simp] theorem State.waitRecord_rxOut (r : Record) (s : State) : (s.waitRecord r).rxOut = some r := rfl
@[simp] theorem State.waitRecord_tx (r : Record) (s : State) : (s.waitRecord r).tx = s.tx := rfl
@[simp] theorem State.waitRecord_evt (r : Record) (s : State) : (s.waitRecord r).evt = s.evt := rfl
@[simp] theorem State.waitRecord_chkOut (r : Record) (s : State) : (s.waitRecord r).chkOut = s.chkOut := rfl
@[simp] theorem State.waitRecord_initLenMode (r : Record) (s : State) : (s.waitRecord r).initLenMode = s.initLenMode := rfl
@[simp] theorem State.waitRecord_sched (r : Record) (s : State) : (s.waitRecord r).sched = s.sched := rfl
@[simp] theorem State.waitRecord_tick (r : Record) (s : State) : (s.waitRecord r).tick = s.tick := rfl

/-! ### State.enterHeader -/

@[simp] theorem State.enterHeader_running (s : State) : s.enterHeader.running = s.running := rfl
@[simp] theorem State.enterHeader_txState (s : State) : s.enterHeader.txState = s.txState := rfl
@[simp] theorem State.enterHeader_txBuf (s : State) : s.enterHeader.txBuf = s.txBuf := rfl
@[simp] theorem State.enterHeader_txN (s : State) : s.enterHeader.txN = s.txN := rfl
@[simp] theorem State.enterHeader_txI (s : State) : s.enterHeader.txI = s.txI := rfl
@[simp] theorem State.enterHeader_rxState (s : State) : s.enterHeader.rxState = .hdr := rfl
@[simp] theorem State.enterHeader_rxType (s : State) : s.enterHeader.rxType = s.rxType := rfl
@[simp] theorem State.enterHeader_rxLen (s : State) : s.enterHeader.rxLen = s.rxLen := rfl
@[simp] theorem State.enterHeader_rxAcc (s : State) : s.enterHeader.rxAcc = s.rxAcc := rfl
@[simp] theorem State.enterHeader_rxIdx (s : State) : s.enterHeader.rxIdx = 0 := rfl
@[simp] theorem State.enterHeader_rxHdr (s : State) : s.enterHeader.rxHdr = s.rxHdr := rfl
@[simp] theorem State.enterHeader_rxCnt (s : State) : s.enterHeader.rxCnt = s.rxCnt := rfl
@[simp] theorem State.enterHeader_rxEvi (s : State) : s.enterHeader.rxEvi = s.rxEvi := rfl
@[simp] theorem State.enterHeader_rxRec (s : State) : s.enterHeader.rxRec = s.rxRec := rfl
@[simp] theorem State.enterHeader_rxEvents (s : State) : s.enterHeader.rxEvents = s.rxEvents := rfl
@[simp] theorem State.enterHeader_rxChk (s : State) : s.enterHeader.rxChk = s.rxChk := rfl
@[simp] theorem State.enterHeader_rxNread (s : State) : s.enterHeader.rxNread = 0 := rfl
@[simp] theorem State.enterHeader_rxOut (s : State) : s.enterHeader.rxOut = s.rxOut := rfl
@[simp] theorem State.enterHeader_tx (s : State) : s.enterHeader.tx = s.tx := rfl
@[simp] theorem State.enterHeader_evt (s : State) : s.enterHeader.evt = s.evt := rfl
@[simp] theorem State.enterHeader_chkOut (s : State) : s.enterHeader.chkOut = s.chkOut := rfl
@[simp] theorem State.enterHeader_initLenMode (s : State) : s.enterHeader.initLenMode = s.initLenMode := rfl
@[simp] theorem State.enterHeader_sched (s : State) : s.enterHeader.sched = s.sched := rfl
@[simp] theorem State.enterHeader_tick (s : State) : s.enterHeader.tick = s.tick := rfl

/-! ### State.stopDec -/

@[simp] theorem State.stopDec_running (s : State) : s.stopDec.running = s.running := rfl
@[simp] theorem State.stopDec_txState (s : State) : s.stopDec.txState = s.txState := rfl
@[simp] theorem State.stopDec_txBuf (s : State) : s.stopDec.txBuf = s.txBuf := rfl
@[simp] theorem State.stopDec_txN (s : State) : s.stopDec.txN = s.txN := rfl
@[simp] theorem State.stopDec_txI (s : State) : s.stopDec.txI = s.txI := rfl
@[simp] theorem State.stopDec_rxState (s : State) : s.stopDec.rxState = .stopped := rfl
@[simp] theorem State.stopDec_rxType (s : State) : s.stopDec.rxType = s.rxType := rfl
@[simp] theorem State.stopDec_rxLen (s : State) : s.stopDec.rxLen = s.rxLen := rfl
@[simp] theorem State.stopDec_rxAcc (s : State) : s.stopDec.rxAcc = s.rxAcc := rfl
@[simp] theorem State.stopDec_rxIdx (s : State) : s.stopDec.rxIdx = s.rxIdx := rfl
@[simp] theorem State.stopDec_rxHdr (s : State) : s.stopDec.rxHdr = s.rxHdr := rfl
@[simp] theorem State.stopDec_rxCnt (s : State) : s.stopDec.rxCnt = s.rxCnt := rfl
@[simp] theorem State.stopDec_rxEvi (s : State) : s.stopDec.rxEvi = s.rxEvi := rfl
@[simp] theorem State.stopDec_rxRec (s : State) : s.stopDec.rxRec = s.rxRec := rfl
@[simp] theorem State.stopDec_rxEvents (s : State) : s.stopDec.rxEvents = s.rxEvents := rfl
@[simp] theorem State.stopDec_rxChk (s : State) : s.stopDec.rxChk = s.rxChk := rfl
@[simp] theorem State.stopDec_rxNread (s : State) : s.stopDec.rxNread = s.rxNread := rfl
@[simp] theorem State.stopDec_rxOut (s : State) : s.stopDec.rxOut = s.rxOut := rfl
@[simp] theorem State.stopDec_tx (s : State) : s.stopDec.tx = s.tx := rfl
@[simp] theorem State.stopDec_evt (s : State) : s.stopDec.evt = s.evt := rfl
@[simp] theorem State.stopDec_chkOut (s : State) : s.stopDec.chkOut = s.chkOut := rfl
@[simp] theorem State.stopDec_initLenMode (s : State) : s.stopDec.initLenMode = s.initLenMode := rfl
@[simp] theorem State.stopDec_sched (s : State) : s.stopDec.sched = s.sched := rfl
@[simp] theorem State.stopDec_tick (s : State) : s.stopDec.tick = s.tick := rfl

/-! ### State.closeEnc -/

@[simp] theorem State.closeEnc_running (s : State) : s.closeEnc.running = s.running := rfl
@[simp] theorem State.closeEnc_txState (s : State) : s.closeEnc.txState = .closed := rfl
@[simp] theorem State.closeEnc_txBuf (s : State) : s.closeEnc.txBuf = s.txBuf := rfl
@[simp] theorem State.closeEnc_txN (s : State) : s.closeEnc.txN = s.txN := rfl
@[simp] theorem State.closeEnc_txI (s : State) : s.closeEnc.txI = s.txI := rfl
@[simp] theorem State.closeEnc_rxState (s : State) : s.closeEnc.rxState = s.rxState := rfl
@[simp] theorem State.closeEnc_rxType (s : State) : s.closeEnc.rxType = s.rxType := rfl
@[simp] theorem State.closeEnc_rxLen (s : State) : s.closeEnc.rxLen = s.rxLen := rfl
@[simp] theorem State.closeEnc_rxAcc (s : State) : s.closeEnc.rxAcc = s.rxAcc := rfl
@[simp] theorem State.closeEnc_rxIdx (s : State) : s.closeEnc.rxIdx = s.rxIdx := rfl
@[simp] theorem State.closeEnc_rxHdr (s : State) : s.closeEnc.rxHdr = s.rxHdr := rfl
@[simp] theorem State.closeEnc_rxCnt (s : State) : s.closeEnc.rxCnt = s.rxCnt := rfl
@[simp] theorem State.closeEnc_rxEvi (s : State) : s.closeEnc.rxEvi = s.rxEvi := rfl
@[simp] theorem State.closeEnc_rxRec (s : State) : s.closeEnc.rxRec = s.rxRec := rfl
@[simp] theorem State.closeEnc_rxEvents (s : State) : s.closeEnc.rxEvents = s.rxEvents := rfl
@[simp] theorem State.closeEnc_rxChk (s : State) : s.closeEnc.rxChk = s.rxChk := rfl
@[simp] theorem State.closeEnc_rxNread (s : State) : s.closeEnc.rxNread = s.rxNread := rfl
@[simp] theorem State.closeEnc_rxOut (s : State) : s.closeEnc.rxOut = s.rxOut := rfl
@[simp] theorem State.closeEnc_tx (s : State) : s.closeEnc.tx = s.tx := rfl
@[simp] theorem State.closeEnc_evt (s : State) : s.closeEnc.evt = s.evt := rfl
@[simp] theorem State.closeEnc_chkOut (s : State) : s.closeEnc.chkOut = s.chkOut := rfl
@[simp] theorem State.closeEnc_initLenMode (s : State) : s.closeEnc.initLenMode = s.initLenMode := rfl
@[simp] theorem State.closeEnc_sched (s : State) : s.closeEnc.sched = s.sched := rfl
@[simp] theorem State.closeEnc_tick (s : State) : s.closeEnc.tick = s.tick := rfl

/-! ### State.quit -/

@[simp] theorem State.quit_running (s : State) : s.quit.running = false := rfl
@[simp] theorem State.quit_txState (s : State) : s.quit.txState = .closed := rfl
@[simp] theorem State.quit_txBuf (s : State) : s.quit.txBuf = s.txBuf := rfl
@[simp] theorem State.quit_txN (s : State) : s.quit.txN = s.txN := rfl
@[simp] theorem State.quit_txI (s : State) : s.quit.txI = s.txI := rfl
@[simp] theorem State.quit_rxState (s : State) : s.quit.rxState = s.rxState := rfl
@[simp] theorem State.quit_rxType (s : State) : s.quit.rxType = s.rxType := rfl
@[simp] theorem State.quit_rxLen (s : State) : s.quit.rxLen = s.rxLen := rfl
@[simp] theorem State.quit_rxAcc (s : State) : s.quit.rxAcc = s.rxAcc := rfl
@[simp] theorem State.quit_rxIdx (s : State) : s.quit.rxIdx = s.rxIdx := rfl
@[simp] theorem State.quit_rxHdr (s : State) : s.quit.rxHdr = s.rxHdr := rfl
@[simp] theorem State.quit_rxCnt (s : State) : s.quit.rxCnt = s.rxCnt := rfl
@[simp] theorem State.quit_rxEvi (s : State) : s.quit.rxEvi = s.rxEvi := rfl
@[simp] theorem State.quit_rxRec (s : State) : s.quit.rxRec = s.rxRec := rfl
@[simp] theorem State.quit_rxEvents (s : State) : s.quit.rxEvents = s.rxEvents := rfl
@[simp] theorem State.quit_rxChk (s : State) : s.quit.rxChk = s.rxChk := rfl
@[simp] theorem State.quit_rxNread (s : State) : s.quit.rxNread = s.rxNread := rfl
@[simp] theorem State.quit_rxOut (s : State) : s.quit.rxOut = s.rxOut := rfl
@[simp] theorem State.quit_tx (s : State) : s.quit.tx = s.tx := rfl
@[simp] theorem State.quit_evt (s : State) : s.quit.evt = s.evt := rfl
@[simp] theorem State.quit_chkOut (s : State) : s.quit.chkOut = s.chkOut := rfl
@[simp] theorem State.quit_initLenMode (s : State) : s.quit.initLenMode = s.initLenMode := rfl
@[simp] theorem State.quit_sched (s : State) : s.quit.sched = s.sched := rfl
@[simp] theorem State.quit_tick (s : State) : s.quit.tick = s.tick := rfl

/-! ### State.handOver -/

@[simp] theorem State.handOver_running (r : Record) (s : State) : (s.handOver r).running = s.running := rfl
@[simp] theorem State.handOver_txState (r : Record) (s : State) : (s.handOver r).txState = s.txState := rfl
@[simp] theorem State.handOver_txBuf (r : Record) (s : State) : (s.handOver r).txBuf = s.txBuf := rfl
@[simp] theorem State.handOver_txN (r : Record) (s : State) : (s.handOver r).txN = s.txN := rfl
@[simp] theorem State.handOver_txI (r : Record) (s : State) : (s.handOver r).txI = s.txI := rfl
@[simp] theorem State.handOver_rxState (r : Record) (s : State) : (s.handOver r).rxState = .idle := rfl
@[simp] theorem State.handOver_rxType (r : Record) (s : State) : (s.handOver r).rxType = s.rxType := rfl
@[simp] theorem State.handOver_rxLen (r : Record) (s : State) : (s.handOver r).rxLen = s.rxLen := rfl
@[simp] theorem State.handOver_rxAcc (r : Record) (s : State) : (s.handOver r).rxAcc = s.rxAcc := rfl
@[simp] theorem State.handOver_rxIdx (r : Record) (s : State) : (s.handOver r).rxIdx = s.rxIdx := rfl
@[simp] theorem State.handOver_rxHdr (r : Record) (s : State) : (s.handOver r).rxHdr = s.rxHdr := rfl
@[simp] theorem State.handOver_rxCnt (r : Record) (s : State) : (s.handOver r).rxCnt = s.rxCnt := rfl
@[simp] theorem State.handOver_rxEvi (r : Record) (s : State) : (s.handOver r).rxEvi = s.rxEvi := rfl
@[simp] theorem State.handOver_rxRec (r : Record) (s : State) : (s.handOver r).rxRec = s.rxRec := rfl
@[simp] theorem State.handOver_rxEvents (r : Record) (s : State) : (s.handOver r).rxEvents = s.rxEvents := rfl
@[simp] theorem State.handOver_rxChk (r : Record) (s : State) : (s.handOver r).rxChk = s.rxChk := rfl
@[simp] theorem State.handOver_rxNread (r : Record) (s : State) : (s.handOver r).rxNread = s.rxNread := rfl
@[simp] theorem State.handOver_rxOut (r : Record) (s : State) : (s.handOver r).rxOut = none := rfl
@[simp] theorem State.handOver_tx (r : Record) (s : State) : (s.handOver r).tx = s.tx := rfl
@[simp] theorem State.handOver_evt (r : Record) (s : State) : (s.handOver r).evt = s.evt ++ [r] := rfl
@[simp] theorem State.handOver_chkOut (r : Record) (s : State) : (s.handOver r).chkOut = s.chkOut := rfl
@[simp] theorem State.handOver_initLenMode (r : Record) (s : State) : (s.handOver r).initLenMode = s.initLenMode := rfl
@[simp] theorem State.handOver_sched (r : Record) (s : State) : (s.handOver r).sched = s.sched := rfl
@[simp] theorem State.handOver_tick (r : Record) (s : State) : (s.handOver r).tick = s.tick := rfl

/-! ### State.handOverError -/

@[simp] theorem State.handOverError_running (r : Record) (s : State) : (s.handOverError r).running = s.running := rfl
@[simp] theorem State.handOverError_txState (r : Record) (s : State) : (s.handOverError r).txState = s.txState := rfl
@[simp] theorem State.handOverError_txBuf (r : Record) (s : State) : (s.handOverError r).txBuf = s.txBuf := rfl
@[simp] theorem State.handOverError_txN (r : Record) (s : State) : (s.handOverError r).txN = s.txN := rfl
@[simp] theorem State.handOverError_txI (r : Record) (s : State) : (s.handOverError r).txI = s.txI := rfl
@[simp] theorem State.handOverError_rxState (r : Record) (s : State) : (s.handOverError r).rxState = .failed := rfl
@[simp] theorem State.handOverError_rxType (r : Record) (s : State) : (s.handOverError r).rxType = s.rxType := rfl
@[simp] theorem State.handOverError_rxLen (r : Record) (s : State) : (s.handOverError r).rxLen = s.rxLen := rfl
@[simp] theorem State.handOverError_rxAcc (r : Record) (s : State) : (s.handOverError r).rxAcc = s.rxAcc := rfl
@[simp] theorem State.handOverError_rxIdx (r : Record) (s : State) : (s.handOverError r).rxIdx = s.rxIdx := rfl
@[simp] theorem State.handOverError_rxHdr (r : Record) (s : State) : (s.handOverError r).rxHdr = s.rxHdr := rfl
@[simp] theorem State.handOverError_rxCnt (r : Record) (s : State) : (s.handOverError r).rxCnt = s.rxCnt := rfl
@[simp] theorem State.handOverError_rxEvi (r : Record) (s : State) : (s.handOverError r).rxEvi = s.rxEvi := rfl
@[simp] theorem State.handOverError_rxRec (r : Record) (s : State) : (s.handOverError r).rxRec = s.rxRec := rfl
@[simp] theorem State.handOverError_rxEvents (r : Record) (s : State) : (s.handOverError r).rxEvents = s.rxEvents := rfl
@[simp] theorem State.handOverError_rxChk (r : Record) (s : State) : (s.handOverError r).rxChk = s.rxChk := rfl
@[simp] theorem State.handOverError_rxNread (r : Record) (s : State) : (s.handOverError r).rxNread = s.rxNread := rfl
@[simp] theorem State.handOverError_rxOut (r : Record) (s : State) : (s.handOverError r).rxOut = none := rfl
@[simp] theorem State.handOverError_tx (r : Record) (s : State) : (s.handOverError r).tx = s.tx := rfl
@[simp] theorem State.handOverError_evt (r : Record) (s : State) : (s.handOverError r).evt = s.evt ++ [r] := rfl
@[simp] theorem State.handOverError_chkOut (r : Record) (s : State) : (s.handOverError r).chkOut = s.chkOut := rfl
@[simp] theorem State.handOverError_initLenMode (r : Record) (s : State) : (s.handOverError r).initLenMode = s.initLenMode := rfl
@[simp] theorem State.handOverError_sched (r : Record) (s : State) : (s.handOverError r).sched = s.sched := rfl
@[simp] theorem State.handOverError_tick (r : Record) (s : State) : (s.handOverError r).tick = s.tick := rfl

/-! ### State.headerByte0 -/

@[simp] theorem State.headerByte0_running (b : Byte) (s : State) : (s.headerByte0 b).running = s.running := rfl
@[simp] theorem State.headerByte0_txState (b : Byte) (s : State) : (s.headerByte0 b).txState = s.txState := rfl
@[simp] theorem State.headerByte0_txBuf (b : Byte) (s : State) : (s.headerByte0 b).txBuf = s.txBuf := rfl
@[simp] theorem State.headerByte0_txN (b : Byte) (s : State) : (s.headerByte0 b).txN = s.txN := rfl
@[simp] theorem State.headerByte0_txI (b : Byte) (s : State) : (s.headerByte0 b).txI = s.txI := rfl
@[simp] theorem State.headerByte0_rxState (b : Byte) (s : State) : (s.headerByte0 b).rxState = s.rxState := rfl
@[simp] theorem State.headerByte0_rxType (b : Byte) (s : State) : (s.headerByte0 b).rxType = b := rfl
@[simp] theorem State.headerByte0_rxLen (b : Byte) (s : State) : (s.headerByte0 b).rxLen = s.rxLen := rfl
@[simp] theorem State.headerByte0_rxAcc (b : Byte) (s : State) : (s.headerByte0 b).rxAcc = b := rfl
@[simp] theorem State.headerByte0_rxIdx (b : Byte) (s : State) : (s.headerByte0 b).rxIdx = 1 := rfl
@[simp] theorem State.headerByte0_rxHdr (b : Byte) (s : State) : (s.headerByte0 b).rxHdr = s.rxHdr := rfl
@[simp] theorem State.headerByte0_rxCnt (b : Byte) (s : State) : (s.headerByte0 b).rxCnt = s.rxCnt := rfl
@[simp] theorem State.headerByte0_rxEvi (b : Byte) (s : State) : (s.headerByte0 b).rxEvi = s.rxEvi := rfl
@[simp] theorem State.headerByte0_rxRec (b : Byte) (s : State) : (s.headerByte0 b).rxRec = s.rxRec := rfl
@[simp] theorem State.headerByte0_rxEvents (b : Byte) (s : State) : (s.headerByte0 b).rxEvents = s.rxEvents := rfl
@[simp] theorem State.headerByte0_rxChk (b : Byte) (s : State) : (s.headerByte0 b).rxChk = s.rxChk := rfl
@[simp] theorem State.headerByte0_rxNread (b : Byte) (s : State) : (s.headerByte0 b).rxNread = 1 := rfl
@[simp] theorem State.headerByte0_rxOut (b : Byte) (s : State) : (s.headerByte0 b).rxOut = s.rxOut := rfl
@[simp] theorem State.headerByte0_tx (b : Byte) (s : State) : (s.headerByte0 b).tx = s.tx := rfl
@[simp] theorem State.headerByte0_evt (b : Byte) (s : State) : (s.headerByte0 b).evt = s.evt := rfl
@[simp] theorem State.headerByte0_chkOut (b : Byte) (s : State) : (s.headerByte0 b).chkOut = s.chkOut := rfl
@[simp] theorem State.headerByte0_initLenMode (b : Byte) (s : State) : (s.headerByte0 b).initLenMode = s.initLenMode := rfl
@[simp] theorem State.headerByte0_sched (b : Byte) (s : State) : (s.headerByte0 b).sched = s.sched := rfl
@[simp] theorem State.headerByte0_tick (b : Byte) (s : State) : (s.headerByte0 b).tick = s.tick := rfl

/-! ### raiseTransportError, RX side -/

@[simp] theorem raise_rx_running (ph : Phase) (n : Nat) (s : State) : (raiseTransportError (.rx ph n) s).running = false := rfl
@[simp] theorem raise_rx_txState (ph : Phase) (n : Nat) (s : State) : (raiseTransportError (.rx ph n) s).txState = s.txState := rfl
@[simp] theorem raise_rx_txBuf (ph : Phase) (n : Nat) (s : State) : (raiseTransportError (.rx ph n) s).txBuf = s.txBuf := rfl
@[simp] theorem raise_rx_txN (ph : Phase) (n : Nat) (s : State) : (raiseTransportError (.rx ph n) s).txN = s.txN := rfl
@[simp] theorem raise_rx_txI (ph : Phase) (n : Nat) (s : State) : (raiseTransportError (.rx ph n) s).txI = s.txI := rfl
@[simp] theorem raise_rx_rxState (ph : Phase) (n : Nat) (s : State) : (raiseTransportError (.rx ph n) s).rxState = .emitErr := rfl
@[simp] theorem raise_rx_rxType (ph : Phase) (n : Nat) (s : State) : (raiseTransportError (.rx ph n) s).rxType = s.rxType := rfl
@[simp] theorem raise_rx_rxLen (ph : Phase) (n : Nat) (s : State) : (raiseTransportError (.rx ph n) s).rxLen = s.rxLen := rfl
@[simp] theorem raise_rx_rxAcc (ph : Phase) (n : Nat) (s : State) : (raiseTransportError (.rx ph n) s).rxAcc = s.rxAcc := rfl
@[simp] theorem raise_rx_rxIdx (ph : Phase) (n : Nat) (s : State) : (raiseTransportError (.rx ph n) s).rxIdx = s.rxIdx := rfl
@[simp] theorem raise_rx_rxHdr (ph : Phase) (n : Nat) (s : State) : (raiseTransportError (.rx ph n) s).rxHdr = s.rxHdr := rfl
@[simp] theorem raise_rx_rxCnt (ph : Phase) (n : Nat) (s : State) : (raiseTransportError (.rx ph n) s).rxCnt = s.rxCnt := rfl
@[simp] theorem raise_rx_rxEvi (ph : Phase) (n : Nat) (s : State) : (raiseTransportError (.rx ph n) s).rxEvi = s.rxEvi := rfl
@[simp] theorem raise_rx_rxRec (ph : Phase) (n : Nat) (s : State) : (raiseTransportError (.rx ph n) s).rxRec = s.rxRec := rfl
@[simp] theorem raise_rx_rxEvents (ph : Phase) (n : Nat) (s : State) : (raiseTransportError (.rx ph n) s).rxEvents = s.rxEvents := rfl
@[simp] theorem raise_rx_rxChk (ph : Phase) (n : Nat) (s : State) : (raiseTransportError (.rx ph n) s).rxChk = s.rxChk := rfl
@[simp] theorem raise_rx_rxNread (ph : Phase) (n : Nat) (s : State) : (raiseTransportError (.rx ph n) s).rxNread = s.rxNread := rfl
@[simp] theorem raise_rx_rxOut (ph : Phase) (n : Nat) (s : State) : (raiseTransportError (.rx ph n) s).rxOut = some (.transportError ph n) := rfl
@[simp] theorem raise_rx_tx (ph : Phase) (n : Nat) (s : State) : (raiseTransportError (.rx ph n) s).tx = s.tx := rfl
@[simp] theorem raise_rx_evt (ph : Phase) (n : Nat) (s : State) : (raiseTransportError (.rx ph n) s).evt = s.evt := rfl
@[simp] theorem raise_rx_chkOut (ph : Phase) (n : Nat) (s : State) : (raiseTransportError (.rx ph n) s).chkOut = s.chkOut := rfl
@[simp] theorem raise_rx_initLenMode (ph : Phase) (n : Nat) (s : State) : (raiseTransportError (.rx ph n) s).initLenMode = s.initLenMode := rfl
@[simp] theorem raise_rx_sched (ph : Phase) (n : Nat) (s : State) : (raiseTransportError (.rx ph n) s).sched = s.sched := rfl
@[simp] theorem raise_rx_tick (ph : Phase) (n : Nat) (s : State) : (raiseTransportError (.rx ph n) s).tick = s.tick := rfl

/-! ### raiseTransportError, TX side -/

@[simp] theorem raise_tx_running (n : Nat) (s : State) : (raiseTransportError (.tx n) s).running = false := rfl
@[simp] theorem raise_tx_txState (n : Nat) (s : State) : (raiseTransportError (.tx n) s).txState = .failed := rfl
@[simp] theorem raise_tx_txBuf (n : Nat) (s : State) : (raiseTransportError (.tx n) s).txBuf = s.txBuf := rfl
@[simp] theorem raise_tx_txN (n : Nat) (s : State) : (raiseTransportError (.tx n) s).txN = s.txN := rfl
@[simp] theorem raise_tx_txI (n : Nat) (s : State) : (raiseTransportError (.tx n) s).txI = s.txI := rfl
@[simp] theorem raise_tx_rxState (n : Nat) (s : State) : (raiseTransportError (.tx n) s).rxState = s.rxState := rfl
@[simp] theorem raise_tx_rxType (n : Nat) (s : State) : (raiseTransportError (.tx n) s).rxType = s.rxType := rfl
@[simp] theorem raise_tx_rxLen (n : Nat) (s : State) : (raiseTransportError (.tx n) s).rxLen = s.rxLen := rfl
@[simp] theorem raise_tx_rxAcc (n : Nat) (s : State) : (raiseTransportError (.tx n) s).rxAcc = s.rxAcc := rfl
@[simp] theorem raise_tx_rxIdx (n : Nat) (s : State) : (raiseTransportError (.tx n) s).rxIdx = s.rxIdx := rfl
@[simp] theorem raise_tx_rxHdr (n : Nat) (s : State) : (raiseTransportError (.tx n) s).rxHdr = s.rxHdr := rfl
@[simp] theorem raise_tx_rxCnt (n : Nat) (s : State) : (raiseTransportError (.tx n) s).rxCnt = s.rxCnt := rfl
@[simp] theorem raise_tx_rxEvi (n : Nat) (s : State) : (raiseTransportError (.tx n) s).rxEvi = s.rxEvi := rfl
@[simp] theorem raise_tx_rxRec (n : Nat) (s : State) : (raiseTransportError (.tx n) s).rxRec = s.rxRec := rfl
@[simp] theorem raise_tx_rxEvents (n : Nat) (s : State) : (raiseTransportError (.tx n) s).rxEvents = s.rxEvents := rfl
@[simp] theorem raise_tx_rxChk (n : Nat) (s : State) : (raiseTransportError (.tx n) s).rxChk = s.rxChk := rfl
@[simp] theorem raise_tx_rxNread (n : Nat) (s : State) : (raiseTransportError (.tx n) s).rxNread = s.rxNread := rfl
@[simp] theorem raise_tx_rxOut (n : Nat) (s : State) : (raiseTransportError (.tx n) s).rxOut = s.rxOut := rfl
@[simp] theorem raise_tx_tx (n : Nat) (s : State) : (raiseTransportError (.tx n) s).tx = s.tx := rfl
@[simp] theorem raise_tx_evt (n : Nat) (s : State) : (raiseTransportError (.tx n) s).evt = s.evt := rfl
@[simp] theorem raise_tx_chkOut (n : Nat) (s : State) : (raiseTransportError (.tx n) s).chkOut = s.chkOut := rfl
@[simp] theorem raise_tx_initLenMode (n : Nat) (s : State) : (raiseTransportError (.tx n) s).initLenMode = s.initLenMode := rfl
@[simp] theorem raise_tx_sched (n : Nat) (s : State) : (raiseTransportError (.tx n) s).sched = s.sched := rfl
@[simp] theorem raise_tx_tick (n : Nat) (s : State) : (raiseTransportError (.tx n) s).tick = s.tick := rfl

/-! ### resetBlock -/

@[simp] theorem resetBlock_running (s : State) : (resetBlock s).running = State.reset.running := rfl
@[simp] theorem resetBlock_txState (s : State) : (resetBlock s).txState = State.reset.txState := rfl
@[simp] theorem resetBlock_txBuf (s : State) : (resetBlock s).txBuf = State.reset.txBuf := rfl
@[simp] theorem resetBlock_txN (s : State) : (resetBlock s).txN = State.reset.txN := rfl
@[simp] theorem resetBlock_txI (s : State) : (resetBlock s).txI = State.reset.txI := rfl
@[simp] theorem resetBlock_rxState (s : State) : (resetBlock s).rxState = State.reset.rxState := rfl
@[simp] theorem resetBlock_rxType (s : State) : (resetBlock s).rxType = State.reset.rxType := rfl
@[simp] theorem resetBlock_rxLen (s : State) : (resetBlock s).rxLen = State.reset.rxLen := rfl
@[simp] theorem resetBlock_rxAcc (s : State) : (resetBlock s).rxAcc = State.reset.rxAcc := rfl
@[simp] theorem resetBlock_rxIdx (s : State) : (resetBlock s).rxIdx = State.reset.rxIdx := rfl
@[simp] theorem resetBlock_rxHdr (s : State) : (resetBlock s).rxHdr = State.reset.rxHdr := rfl
@[simp] theorem resetBlock_rxCnt (s : State) : (resetBlock s).rxCnt = State.reset.rxCnt := rfl
@[simp] theorem resetBlock_rxEvi (s : State) : (resetBlock s).rxEvi = State.reset.rxEvi := rfl
@[simp] theorem resetBlock_rxRec (s : State) : (resetBlock s).rxRec = State.reset.rxRec := rfl
@[simp] theorem resetBlock_rxEvents (s : State) : (resetBlock s).rxEvents = State.reset.rxEvents := rfl
@[simp] theorem resetBlock_rxChk (s : State) : (resetBlock s).rxChk = State.reset.rxChk := rfl
@[simp] theorem resetBlock_rxNread (s : State) : (resetBlock s).rxNread = State.reset.rxNread := rfl
@[simp] theorem resetBlock_rxOut (s : State) : (resetBlock s).rxOut = State.reset.rxOut := rfl
@[simp] theorem resetBlock_tx (s : State) : (resetBlock s).tx = s.tx := rfl
@[simp] theorem resetBlock_evt (s : State) : (resetBlock s).evt = s.evt := rfl
@[simp] theorem resetBlock_chkOut (s : State) : (resetBlock s).chkOut = s.chkOut := rfl
@[simp] theorem resetBlock_initLenMode (s : State) : (resetBlock s).initLenMode = s.initLenMode := rfl
@[simp] theorem resetBlock_sched (s : State) : (resetBlock s).sched = s.sched := rfl
@[simp] theorem resetBlock_tick (s : State) : (resetBlock s).tick = s.tick := rfl

/-! ### State.dropTurn -/

@[simp] theorem State.dropTurn_running (s : State) : s.dropTurn.running = s.running := by
  unfold State.dropTurn; split <;> rfl
@[simp] theorem State.dropTurn_txState (s : State) : s.dropTurn.txState = s.txState := by
  unfold State.dropTurn; split <;> rfl
@[simp] theorem State.dropTurn_txBuf (s : State) : s.dropTurn.txBuf = s.txBuf := by
  unfold State.dropTurn; split <;> rfl
@[simp] theorem State.dropTurn_txN (s : State) : s.dropTurn.txN = s.txN := by
  unfold State.dropTurn; split <;> rfl
@[simp] theorem State.dropTurn_txI (s : State) : s.dropTurn.txI = s.txI := by
  unfold State.dropTurn; split <;> rfl
@[simp] theorem State.dropTurn_rxState (s : State) : s.dropTurn.rxState = s.rxState := by
  unfold State.dropTurn; split <;> rfl
@[simp] theorem State.dropTurn_rxType (s : State) : s.dropTurn.rxType = s.rxType := by
  unfold State.dropTurn; split <;> rfl
@[simp] theorem State.dropTurn_rxLen (s : State) : s.dropTurn.rxLen = s.rxLen := by
  unfold State.dropTurn; split <;> rfl
@[simp] theorem State.dropTurn_rxAcc (s : State) : s.dropTurn.rxAcc = s.rxAcc := by
  unfold State.dropTurn; split <;> rfl
@[simp] theorem State.dropTurn_rxIdx (s : State) : s.dropTurn.rxIdx = s.rxIdx := by
  unfold State.dropTurn; split <;> rfl
@[simp] theorem State.dropTurn_rxHdr (s : State) : s.dropTurn.rxHdr = s.rxHdr := by
  unfold State.dropTurn; split <;> rfl
@[simp] theorem State.dropTurn_rxCnt (s : State) : s.dropTurn.rxCnt = s.rxCnt := by
  unfold State.dropTurn; split <;> rfl
@[simp] theorem State.dropTurn_rxEvi (s : State) : s.dropTurn.rxEvi = s.rxEvi := by
  unfold State.dropTurn; split <;> rfl
@[simp] theorem State.dropTurn_rxRec (s : State) : s.dropTurn.rxRec = s.rxRec := by
  unfold State.dropTurn; split <;> rfl
@[simp] theorem State.dropTurn_rxEvents (s : State) : s.dropTurn.rxEvents = s.rxEvents := by
  unfold State.dropTurn; split <;> rfl
@[simp] theorem State.dropTurn_rxChk (s : State) : s.dropTurn.rxChk = s.rxChk := by
  unfold State.dropTurn; split <;> rfl
@[simp] theorem State.dropTurn_rxNread (s : State) : s.dropTurn.rxNread = s.rxNread := by
  unfold State.dropTurn; split <;> rfl
@[simp] theorem State.dropTurn_rxOut (s : State) : s.dropTurn.rxOut = s.rxOut := by
  unfold State.dropTurn; split <;> rfl
@[simp] theorem State.dropTurn_tx (s : State) : s.dropTurn.tx = s.tx := by
  unfold State.dropTurn; split <;> rfl
@[simp] theorem State.dropTurn_evt (s : State) : s.dropTurn.evt = s.evt := by
  unfold State.dropTurn; split <;> rfl
@[simp] theorem State.dropTurn_chkOut (s : State) : s.dropTurn.chkOut = s.chkOut := by
  unfold State.dropTurn; split <;> rfl
@[simp] theorem State.dropTurn_initLenMode (s : State) : s.dropTurn.initLenMode = s.initLenMode := by
  unfold State.dropTurn; split <;> rfl

end Sys2Proof.Machine
end

