-- ==== Sys2Proof/Laws/Ops.lean ====
section
/-! SUPPORT. One lemma for each shared operation that says once everything it can do. -/

namespace Sys2Proof.Machine

/-! ### Outcomes in a row -/

@[simp] theorem andThen_next (s : State) (f : State → Host.Outcome State Fault Refusal) :
    andThen (.next s) f = f s := rfl

@[simp] theorem andThen_fault (r : Fault) (f : State → Host.Outcome State Fault Refusal) :
    andThen (.fault r) f = .fault r := rfl

@[simp] theorem andThen_refused (r : Refusal) (f : State → Host.Outcome State Fault Refusal) :
    andThen (.refused r) f = .refused r := rfl

/-- If two steps in a row give a next state, both do. -/
theorem andThen_eq_next {o : Host.Outcome State Fault Refusal} {f : State → Host.Outcome State Fault Refusal}
    {t : State} (h : andThen o f = .next t) : ∃ s, o = .next s ∧ f s = .next t := by
  cases o with
  | next s => exact ⟨s, rfl, h⟩
  | fault r => cases h
  | refused r => cases h

/-- Grouping of steps in a row. -/
theorem andThen_assoc (o : Host.Outcome State Fault Refusal) (f g : State → Host.Outcome State Fault Refusal) :
    andThen (andThen o f) g = andThen o (fun s => andThen (f s) g) := by
  cases o <;> rfl

/-! ### ENC -/

theorem cmdReady_iff (s : State) : s.cmdReady = true ↔ s.txState = .idle ∧ s.running = true := by
  simp [State.cmdReady]

/-- Acceptance of a frame: everything it can do. -/
theorem acceptFrame_cases (buf : List Byte) (s : State) :
    s.cmdReady = true ∧ acceptFrame buf s = s.loadFrame buf ∨ s.cmdReady = false ∧ acceptFrame buf s = s := by
  unfold acceptFrame
  cases h : s.cmdReady <;> simp

/-- The byte on offer, if one is. -/
theorem offered_eq_some {s : State} {b : Byte} :
    s.offered = some b ↔ s.txState = .send ∧ s.txI < s.txN ∧ s.txBuf[s.txI]? = some b := by
  unfold State.offered
  split <;> simp_all

/-- The send step: everything it can do. -/
theorem txStep_cases (a : TxAnswer) (s : State) :
    s.offered = none ∧ txStep a s = s ∨
      ∃ b, s.offered = some b ∧
        (a = .accept ∧ txStep a s = s.sendByte b ∨ a = .err ∧ txStep a s = raiseTransportError (.tx s.txI) s) := by
  unfold txStep
  cases h : s.offered with
  | none => exact .inl ⟨rfl, rfl⟩
  | some b => cases a <;> simp

/-- ENC's check: everything it can do. -/
theorem encCheckStep_cases (s : State) :
    (s.txState = .idle ∧ s.running = false) ∧ encCheckStep s = s.closeEnc ∨
      ¬ (s.txState = .idle ∧ s.running = false) ∧ encCheckStep s = s := by
  unfold encCheckStep
  by_cases h : s.txState = .idle ∧ s.running = false <;> simp [h]

/-! ### DEC -/

theorem atFrameStart_iff (s : State) : s.atFrameStart = true ↔ s.rxState = .hdr ∧ s.rxIdx = 0 := by
  simp [State.atFrameStart]

/-- DEC's boundary check: everything it can do. -/
theorem boundaryStep_cases (s : State) :
    s.rxState = .idle ∧ s.running = true ∧ boundaryStep s = s.enterHeader ∨
      s.rxState = .idle ∧ s.running = false ∧ boundaryStep s = s.stopDec ∨
      s.rxState ≠ .idle ∧ boundaryStep s = s := by
  unfold boundaryStep
  by_cases h : s.rxState = .idle
  · cases hr : s.running <;> simp [h]
  · simp [h]

/-- HOST's acceptance of a record: everything it can do. -/
theorem evtStep_cases (s : State) :
    (∃ r, s.rxState = .emit ∧ s.rxOut = some r ∧ evtStep s = s.handOver r) ∨
      (∃ r, s.rxState = .emitErr ∧ s.rxOut = some r ∧ evtStep s = s.handOverError r) ∨
      evtStep s = s := by
  unfold evtStep
  split
  · exact .inl ⟨_, by assumption, by assumption, rfl⟩
  · exact .inr (.inl ⟨_, by assumption, by assumption, rfl⟩)
  · exact .inr (.inr rfl)

/-- An answer on RXD: everything it can do. -/
theorem rxStep_cases (a : RxAnswer) (s : State) :
    s.asking = false ∧ rxStep a s = .next s ∨
      s.asking = true ∧ (∃ b, a = .byte b ∧ rxStep a s = takeByte b s) ∨
      s.asking = true ∧ a = .err ∧
        ∃ ph, s.rxState.phase = some ph ∧ rxStep a s = .next (raiseTransportError (.rx ph s.rxNread) s) := by
  unfold rxStep
  cases h : s.asking with
  | false => exact .inl ⟨rfl, by simp⟩
  | true =>
    cases a with
    | byte b => exact .inr (.inl ⟨rfl, b, rfl, by simp⟩)
    | err =>
      refine .inr (.inr ⟨rfl, rfl, ?_⟩)
      unfold State.asking at h
      cases hs : s.rxState <;> simp_all [RxState.phase]

/-- The trailer: everything it can do. -/
theorem trailerByte_cases (b : Byte) (s : State) :
    (∃ r, s.trailerRecord b = some r ∧ trailerByte b s = .next (s.readTrailer b r)) ∨
      s.trailerRecord b = none ∧ trailerByte b s = .fault .noTrailerType := by
  unfold trailerByte
  cases h : s.trailerRecord b with
  | none => exact .inr ⟨rfl, rfl⟩
  | some r => exact .inl ⟨r, rfl, rfl⟩

@[simp] theorem feed_nil (s : State) : feed [] s = .next s := rfl

@[simp] theorem feed_cons (a : RxAnswer) (as : List RxAnswer) (s : State) :
    feed (a :: as) s = andThen (rxStep a s) (feed as) := rfl

/-- Answers offered in two groups. -/
theorem feed_append (as bs : List RxAnswer) (s : State) : feed (as ++ bs) s = andThen (feed as s) (feed bs) := by
  induction as generalizing s with
  | nil => rfl
  | cons a as ih =>
    simp only [List.cons_append, feed_cons, andThen_assoc]
    congr 1
    funext t
    exact ih t

/-- Where DEC does not ask, no answer is taken. -/
theorem feed_not_asking (as : List RxAnswer) (s : State) (h : s.asking = false) : feed as s = .next s := by
  induction as with
  | nil => rfl
  | cons a as ih => simp [rxStep, h, ih]

/-! ### Turns -/

@[simp] theorem runTurns_nil (s : State) : runTurns [] s = .next s := rfl

@[simp] theorem runTurns_cons (t : Turn) (ts : List Turn) (s : State) :
    runTurns (t :: ts) s = andThen (runTurn t s) (runTurns ts) := rfl

/-- Turns in two groups. -/
theorem runTurns_append (ts us : List Turn) (s : State) :
    runTurns (ts ++ us) s = andThen (runTurns ts s) (runTurns us) := by
  induction ts generalizing s with
  | nil => rfl
  | cons t ts ih =>
    simp only [List.cons_append, runTurns_cons, andThen_assoc]
    congr 1
    funext t
    exact ih t

/-- A line of RXD bytes as turns: DEC's byte steps one after another. -/
theorem runTurns_rxLine (bs : List Byte) (s : State) : runTurns (rxLine bs) s = feed (bs.map .byte) s := by
  induction bs generalizing s with
  | nil => rfl
  | cons b bs ih =>
    simp only [rxLine, List.map_cons, runTurns_cons, feed_cons]
    congr 1
    funext t
    exact ih t

/-- A table word's frame is placed with all its bytes but the last taken. -/
theorem placeFrame_eq {bs : List Byte} {s t : State} (h : feed (bs.dropLast.map .byte) s.enterHeader = .next t) :
    placeFrame bs s = { t with sched := rxLine (bs.drop (bs.length - 1)) ++ t.sched } := by
  rw [placeFrame, h]

/-- The next turn, where one is held in the state. -/
theorem nextTurn_cons {s : State} {t : Turn} {ts : List Turn} (h : s.sched = t :: ts) :
    s.nextTurn = t ∧ s.dropTurn = { s with sched := ts } := by
  simp [State.nextTurn, State.dropTurn, h]

/-- A step is the next turn, run without it on the schedule. -/
theorem step_eq (s : State) : step s = runTurn s.nextTurn s.dropTurn := rfl

/-- A run goes on from the next state of its first step. -/
theorem core_run_next {k : Nat} {s t : State} (h : step s = .next t) :
    Sys2Proof.core.run (k + 1) s = Sys2Proof.core.run k t := by
  have h : Sys2Proof.core.step s = .next t := h
  simp [Host.Core.run, h]

end Sys2Proof.Machine
end

