-- ==== Sys2Proof/Laws/Decoder.lean ====
section
/-! SUPPORT. What DEC's byte steps come to over one group of bytes: the four payload bytes (42_decoder.md R99) and one event
record (R100). -/

namespace Sys2Proof.Machine

/-- The entries of a buffer below `k` replaced by another's. -/
def patch {n : Nat} (k : Nat) (new old : Vector Byte n) : Vector Byte n :=
  Vector.ofFn fun i => if i.val < k then new[i] else old[i]

@[simp] theorem patch_zero {n : Nat} (new old : Vector Byte n) : patch 0 new old = old := by
  ext i hi
  simp [patch]

@[simp] theorem patch_all {n : Nat} (new old : Vector Byte n) : patch n new old = new := by
  ext i hi
  simp [patch]

theorem patch_succ {n : Nat} (k : Nat) (hk : k < n) (new old : Vector Byte n) :
    (patch k new old).setIfInBounds k new[k] = patch (k + 1) new old := by
  ext i hi
  simp only [patch, Vector.getElem_setIfInBounds, Vector.getElem_ofFn, Fin.getElem_fin]
  by_cases h : k = i
  · subst h
    simp
  · have h1 : i < k ↔ i < k + 1 := by omega
    simp [h, h1]

/-- 42_decoder.md R99: DEC takes the payload bytes before the last one. -/
theorem feed_payload_part (q : Quad) (s : State) (hs : s.rxState = .pay) (hi : s.rxIdx = 0) (k : Nat) (hk : k ≤ 3) :
    feed ((q.toList.take k).map .byte) s =
      .next { s with
        rxHdr := patch k q s.rxHdr, rxAcc := s.rxAcc ^^^ compute (q.toList.take k), rxIdx := k
        rxNread := s.rxNread + k } := by
  induction k with
  | zero =>
    cases s
    simp_all
  | succ k ih =>
    have hlt : k < q.toList.length := by simp; omega
    rw [List.take_succ_eq_append_getElem hlt, List.map_append, feed_append, ih (by omega), compute_concat]
    have h3 : k ≤ 3 := by omega
    have h3' : k < 3 := by omega
    have hp := patch_succ k (by omega) q s.rxHdr
    simp [rxStep, State.asking, takeByte, State.payloadByte, hs, h3, h3', hp, BitVec.xor_assoc, Nat.add_assoc]

/-- 42_decoder.md R100: DEC takes the bytes of an event record before the last one. -/
theorem feed_record_part (r : RawEvent) (s : State) (hs : s.rxState = .evt) (hi : s.rxIdx = 0)
    (he : s.rxEvi < s.rxCnt.toNat) (k : Nat) (hk : k ≤ 15) :
    feed ((r.toList.take k).map .byte) s =
      .next { s with
        rxRec := patch k r s.rxRec, rxAcc := s.rxAcc ^^^ compute (r.toList.take k), rxIdx := k
        rxNread := s.rxNread + k } := by
  induction k with
  | zero =>
    cases s
    simp_all
  | succ k ih =>
    have hlt : k < r.toList.length := by simp; omega
    rw [List.take_succ_eq_append_getElem hlt, List.map_append, feed_append, ih (by omega), compute_concat]
    have h3 : k ≤ 15 := by omega
    have h3' : k < 15 := by omega
    have hp := patch_succ k (by omega) r s.rxRec
    simp [rxStep, State.asking, takeByte, State.recordByte, hs, he, h3, h3', hp, BitVec.xor_assoc, Nat.add_assoc]

/-- 42_decoder.md R100: DEC takes a whole event record. -/
theorem feed_record (r : RawEvent) (s : State) (hs : s.rxState = .evt) (hi : s.rxIdx = 0)
    (he : s.rxEvi < s.rxCnt.toNat) :
    feed (r.toList.map .byte) s =
      .next { s with
        rxRec := r, rxAcc := s.rxAcc ^^^ compute r.toList, rxIdx := 0, rxNread := s.rxNread + 16
        rxEvents := s.rxEvents ++ [decodeEvent r], rxEvi := s.rxEvi + 1
        rxState := if s.rxEvi + 1 = s.rxCnt.toNat then .trailer else .evt } := by
  have hlt : 15 < r.toList.length := by simp
  have h16 : r.toList = r.toList.take 15 ++ [r.toList[15]] := by
    rw [← List.take_succ_eq_append_getElem hlt, List.take_of_length_le (by simp)]
  have hp := patch_succ 15 (by omega) r s.rxRec
  rw [patch_all r s.rxRec] at hp
  have hg : r.toList[15] = r[15] := by simp
  rw [h16, List.map_append, feed_append, feed_record_part r s hs hi he 15 (by omega), compute_concat, hg]
  generalize r[15] = b at hp ⊢
  simp only [andThen_next, List.map_cons, List.map_nil, feed_cons]
  simp [rxStep, State.asking, takeByte, State.recordByte, hs, he, hp, BitVec.xor_assoc]
  split <;> rfl

/-- 42_decoder.md R99: DEC takes a whole payload. -/
theorem feed_payload (q : Quad) (s : State) (hs : s.rxState = .pay) (hi : s.rxIdx = 0) :
    feed (q.toList.map .byte) s =
      .next (
        let s1 := { s with
          rxHdr := q, rxAcc := s.rxAcc ^^^ compute q.toList, rxIdx := 3, rxNread := s.rxNread + 4 }
        if s.rxType = 0x81#8 then { s1 with rxState := .trailer }
        else if q[2] = 0x00#8 then
          { s1 with rxCnt := q[2], rxEvi := 0, rxEvents := [], rxState := .trailer }
        else { s1 with rxCnt := q[2], rxEvi := 0, rxEvents := [], rxState := .evt, rxIdx := 0 }) := by
  have hlt : 3 < q.toList.length := by simp
  have h4 : q.toList = q.toList.take 3 ++ [q.toList[3]] := by
    rw [← List.take_succ_eq_append_getElem hlt, List.take_of_length_le (by simp)]
  have hp := patch_succ 3 (by omega) q s.rxHdr
  rw [patch_all q s.rxHdr] at hp
  rw [h4, List.map_append, feed_append, feed_payload_part q s hs hi 3 (by omega), compute_concat]
  simp only [andThen_next, List.map_cons, List.map_nil, feed_cons]
  simp [rxStep, State.asking, takeByte, State.payloadByte, hs, hp, BitVec.xor_assoc, Nat.add_assoc]

/-- The checksum of two groups of bytes is folded group by group: what 40_checksum.md R83 says of a running accumulator. -/
theorem xor_compute_append (a : Byte) (bs cs : List Byte) :
    a ^^^ compute (bs ++ cs) = a ^^^ compute bs ^^^ compute cs := by
  induction bs generalizing a with
  | nil => simp
  | cons b bs ih => simp only [List.cons_append, compute_cons, ← BitVec.xor_assoc, ih]

/-- 42_decoder.md R100: DEC takes the event records up to the last one the count announces. -/
theorem feed_records (rs : List RawEvent) (s : State) (hs : s.rxState = .evt) (hi : s.rxIdx = 0) (hne : rs ≠ [])
    (he : s.rxEvi + rs.length = s.rxCnt.toNat) :
    feed ((rs.flatMap fun r => r.toList).map .byte) s =
      .next { s with
        rxRec := rs.getLastD s.rxRec, rxAcc := s.rxAcc ^^^ compute (rs.flatMap fun r => r.toList), rxIdx := 0
        rxNread := s.rxNread + 16 * rs.length, rxEvents := s.rxEvents ++ rs.map decodeEvent
        rxEvi := s.rxEvi + rs.length, rxState := .trailer } := by
  induction rs generalizing s with
  | nil => exact absurd rfl hne
  | cons r rs ih =>
    have hlt : s.rxEvi < s.rxCnt.toNat := by simp at he; omega
    simp only [List.flatMap_cons, List.map_append, feed_append, feed_record r s hs hi hlt, andThen_next]
    by_cases hrs : rs = []
    · subst hrs
      have : s.rxEvi + 1 = s.rxCnt.toNat := by simpa using he
      simp [this]
    · have hpos : 0 < rs.length := List.length_pos_iff.mpr hrs
      have : ¬ s.rxEvi + 1 = s.rxCnt.toNat := by simp at he; omega
      rw [ih _ (by simp [this]) rfl hrs (by simp at he ⊢; omega), xor_compute_append]
      cases rs with
      | nil => exact absurd rfl hrs
      | cons r' rs =>
        simp [List.getLast?_cons]
        omega

end Sys2Proof.Machine
end

