-- ==== Sys2Proof/Laws/Frames.lean ====
section
/-! SUPPORT. What DEC's byte steps leave alone: ENC's registers, both streams, and the fields that are the model's own. -/

namespace Sys2Proof.Machine

/-- Two states that differ in DEC's registers and `running` at most. -/
def SameOutsideDec (s t : State) : Prop :=
  t.txState = s.txState ∧ t.txBuf = s.txBuf ∧ t.txN = s.txN ∧ t.txI = s.txI ∧ t.tx = s.tx ∧ t.evt = s.evt ∧
    t.chkOut = s.chkOut ∧ t.initLenMode = s.initLenMode ∧ t.sched = s.sched ∧ t.tick = s.tick

theorem SameOutsideDec.refl (s : State) : SameOutsideDec s s := by simp [SameOutsideDec]

theorem SameOutsideDec.trans {s t u : State} (h : SameOutsideDec s t) (h' : SameOutsideDec t u) :
    SameOutsideDec s u := by
  simp_all [SameOutsideDec]

theorem headerByte0_frame (b : Byte) (s : State) : SameOutsideDec s (s.headerByte0 b) := by
  simp [SameOutsideDec]

theorem headerByte1_frame (b : Byte) (s : State) : SameOutsideDec s (s.headerByte1 b) := by
  unfold State.headerByte1
  dsimp only
  split <;> [skip; split] <;> simp [SameOutsideDec]

theorem payloadByte_frame (b : Byte) (s : State) : SameOutsideDec s (s.payloadByte b) := by
  unfold State.payloadByte
  dsimp only
  split <;> [skip; split <;> [skip; split]] <;> simp [SameOutsideDec]

theorem recordByte_frame (b : Byte) (s : State) : SameOutsideDec s (s.recordByte b) := by
  unfold State.recordByte
  dsimp only
  split <;> [skip; split] <;> simp [SameOutsideDec]

/-- DEC takes a byte: what it leaves alone. -/
theorem takeByte_frame {b : Byte} {s t : State} (h : takeByte b s = .next t) :
    SameOutsideDec s t ∧ t.running = s.running := by
  unfold takeByte at h
  split at h
  · cases h
    split
    · exact ⟨headerByte0_frame b s, by simp⟩
    · refine ⟨headerByte1_frame b s, ?_⟩
      unfold State.headerByte1
      dsimp only
      split <;> [skip; split] <;> simp
  · cases h
    refine ⟨payloadByte_frame b s, ?_⟩
    unfold State.payloadByte
    dsimp only
    split <;> [skip; split <;> [skip; split]] <;> simp
  · cases h
    refine ⟨recordByte_frame b s, ?_⟩
    unfold State.recordByte
    dsimp only
    split <;> [skip; split] <;> simp
  · rcases trailerByte_cases b s with ⟨r, -, e⟩ | ⟨-, e⟩ <;> rw [e] at h <;> cases h
    simp [SameOutsideDec]
  all_goals
    cases h
    exact ⟨SameOutsideDec.refl _, rfl⟩

/-- An answer on RXD: what it leaves alone. -/
theorem rxStep_frame {a : RxAnswer} {s t : State} (h : rxStep a s = .next t) : SameOutsideDec s t := by
  rcases rxStep_cases a s with ⟨-, e⟩ | ⟨-, b, -, e⟩ | ⟨-, -, ph, -, e⟩ <;> rw [e] at h
  · cases h
    exact SameOutsideDec.refl _
  · exact (takeByte_frame h).1
  · cases h
    simp [SameOutsideDec]

/-- Answers on RXD: what they leave alone. -/
theorem feed_frame {as : List RxAnswer} {s t : State} (h : feed as s = .next t) : SameOutsideDec s t := by
  induction as generalizing s with
  | nil =>
    cases h
    exact SameOutsideDec.refl _
  | cons a as ih =>
    obtain ⟨u, h1, h2⟩ := andThen_eq_next h
    exact (rxStep_frame h1).trans (ih h2)

/-! ### DEC's byte steps read nothing outside DEC's registers -/

/-- The state with everything outside DEC's registers and `running` taken from `o`. -/
def State.setOutsideDec (s o : State) : State :=
  { s with
    txState := o.txState, txBuf := o.txBuf, txN := o.txN, txI := o.txI, tx := o.tx, evt := o.evt, chkOut := o.chkOut
    initLenMode := o.initLenMode, sched := o.sched, tick := o.tick }

theorem headerByte1_setOutsideDec (b : Byte) (o s : State) :
    (s.setOutsideDec o).headerByte1 b = (s.headerByte1 b).setOutsideDec o := by
  unfold State.headerByte1 State.setOutsideDec
  dsimp only
  split <;> [skip; split] <;> rfl

theorem payloadByte_setOutsideDec (b : Byte) (o s : State) :
    (s.setOutsideDec o).payloadByte b = (s.payloadByte b).setOutsideDec o := by
  unfold State.payloadByte State.setOutsideDec
  dsimp only
  split <;> [skip; split <;> [skip; split]] <;> rfl

theorem recordByte_setOutsideDec (b : Byte) (o s : State) :
    (s.setOutsideDec o).recordByte b = (s.recordByte b).setOutsideDec o := by
  unfold State.recordByte State.setOutsideDec
  dsimp only
  split <;> [skip; split] <;> rfl

theorem takeByte_setOutsideDec (b : Byte) (o s : State) :
    takeByte b (s.setOutsideDec o) = andThen (takeByte b s) fun t => .next (t.setOutsideDec o) := by
  have hs : (s.setOutsideDec o).rxState = s.rxState := rfl
  unfold takeByte
  rw [hs]
  split
  · have hi : (s.setOutsideDec o).rxIdx = s.rxIdx := rfl
    rw [hi]
    split
    · rfl
    · simp only [headerByte1_setOutsideDec, andThen_next]
  · simp only [payloadByte_setOutsideDec, andThen_next]
  · simp only [recordByte_setOutsideDec, andThen_next]
  · have hr : (s.setOutsideDec o).trailerRecord b = s.trailerRecord b := rfl
    unfold trailerByte
    rw [hr]
    split <;> rfl
  all_goals rfl

/-- An answer on RXD does the same whatever stands outside DEC's registers. -/
theorem rxStep_setOutsideDec (a : RxAnswer) (o s : State) :
    rxStep a (s.setOutsideDec o) = andThen (rxStep a s) fun t => .next (t.setOutsideDec o) := by
  have ha : (s.setOutsideDec o).asking = s.asking := rfl
  have hp : (s.setOutsideDec o).rxState = s.rxState := rfl
  unfold rxStep
  rw [ha, hp]
  split
  · cases a with
    | byte b => exact takeByte_setOutsideDec b o s
    | err => cases s.rxState.phase <;> rfl
  · rfl

/-- Answers on RXD do the same whatever stands outside DEC's registers. -/
theorem feed_setOutsideDec (as : List RxAnswer) (o s : State) :
    feed as (s.setOutsideDec o) = andThen (feed as s) fun t => .next (t.setOutsideDec o) := by
  induction as generalizing s with
  | nil => rfl
  | cons a as ih =>
    simp only [feed_cons, rxStep_setOutsideDec, andThen_assoc, andThen_next]
    congr 1
    funext t
    exact ih t

end Sys2Proof.Machine
end

