-- ==== Sys2Proof/Laws/PerInstr.lean ====
section
/-! SUPPORT. Laws per instruction: how many bytes an instruction's frame has (30_encoding.md R57 to R67). -/

namespace Sys2Proof.Laws

open Sys2Proof Sys2Proof.Machine

/-- 30_encoding.md R58 to R65: the bytes of an instruction's frame, counted from its fields. -/
def WireSize.bytes : Instr → Nat
  | .encStatus => 3
  | .encInit f => 19 + f.track.length
  | .encDump _ => 4
  | .decAck _ _ => 3
  | .decStatus _ _ _ => 7
  | .decDump _ q _ _ => 7 + 16 * q[2].toNat
  | .decNak _ _ => 3
  | .decUnrecognized _ _ => 2
  | .chk _ => 0
  | .hostQuit => 0

/-- The frame of a well-formed instruction has the bytes that its fields announce. -/
def WireSize.Statement (i : Instr) : Prop :=
  ∀ (m : InitLenMode) (bs : List Byte), i.wellFormed = true → encode m i = some bs → bs.length = WireSize.bytes i

theorem WireSize.encStatus : WireSize.Statement .encStatus := by
  rintro m bs - ⟨⟩; rfl

theorem WireSize.encInit (f : InitFields) : WireSize.Statement (.encInit f) := by
  rintro m bs - ⟨⟩
  simp [encodeInit, withTrailer, initBody, bytes16le, WireSize.bytes]
  omega

theorem WireSize.encDump (code : Byte) : WireSize.Statement (.encDump code) := by
  rintro m bs - ⟨⟩; rfl

theorem WireSize.decAck (len ck : Byte) : WireSize.Statement (.decAck len ck) := by
  rintro m bs - ⟨⟩; rfl

theorem WireSize.decStatus (len : Byte) (q : Quad) (ck : Byte) : WireSize.Statement (.decStatus len q ck) := by
  rintro m bs - ⟨⟩
  simp [WireSize.bytes]

theorem WireSize.decDump (len : Byte) (q : Quad) (recs : List RawEvent) (ck : Byte) :
    WireSize.Statement (.decDump len q recs ck) := by
  rintro m bs hw ⟨⟩
  have hr : recs.length = q[2].toNat := by simpa [Instr.wellFormed] using hw
  have hs : (recs.flatMap fun r => r.toList).length = 16 * recs.length := by
    simp [List.length_flatMap, Nat.mul_comm]
  simp only [WireSize.bytes, List.length_append, List.length_cons, List.length_nil, hs, Vector.length_toList, hr]
  omega

theorem WireSize.decNak (len ck : Byte) : WireSize.Statement (.decNak len ck) := by
  rintro m bs - ⟨⟩; rfl

theorem WireSize.decUnrecognized (t len : Byte) : WireSize.Statement (.decUnrecognized t len) := by
  rintro m bs - ⟨⟩; rfl

theorem WireSize.chk (s : List Byte) : WireSize.Statement (.chk s) := by
  rintro m bs - ⟨⟩

theorem WireSize.hostQuit : WireSize.Statement .hostQuit := by
  rintro m bs - ⟨⟩

end Sys2Proof.Laws
end

