-- ==== Sys2Proof/Tests/Slice0.lean ====
section
/-! SUPPORT. Tests of the model against the vectors of 95_test_vectors.md and against values worked out from the rules by
hand, and for each statement of Certificates/Slice0/Obligations.lean that has hypotheses a witness that meets them. -/

namespace Sys2Proof.Tests

open Sys2Proof Sys2Proof.Machine

/-! ### Helpers -/

/-- What a view of the next state shows, if there is one. -/
def after {α : Type} (o : Host.Outcome State Fault Refusal) (f : State → α) : Option α :=
  match o with
  | .next s => some (f s)
  | .fault _ => none
  | .refused _ => none

/-- Whether an outcome is this refusal. -/
def refusedWith (o : Host.Outcome State Fault Refusal) (e : Refusal) : Bool :=
  match o with
  | .next _ => false
  | .fault _ => false
  | .refused r => r == e

/-- DEC asks for the first byte of a frame, everything else as after reset. -/
def atHeader : State := State.reset.enterHeader

/-- ENC is sending the Dump request of V-ENC-2 (02 01 8A 89); `i` bytes are out. -/
def sending (i : Nat) : State :=
  { State.reset with txBuf := [0x02#8, 0x01#8, 0x8A#8, 0x89#8], txN := 4, txI := i, txState := .send }

/-- DEC has read one header byte. -/
def afterType (t : Byte) : State := { atHeader with rxType := t, rxAcc := t, rxNread := 1, rxIdx := 1 }

/-- A record waits on EVT. -/
def waiting (x : RxState) (r : Record) : State := { State.reset with rxState := x, rxOut := some r }

/-- The request of V-ENC-5, with another track. -/
def initWith (track : List Byte) : InitFields where
  pkgId := 0x1234#16
  reserved := 0x0000#16
  year := 2018#16
  month := 1#8
  day := 2#8
  weekday := 2#8
  hour := 3#8
  minute := 4#8
  second := 5#8
  carrierCode := 0x11#8
  userCode := 0x22#8
  trackMode := 0x01#8
  trackLen := 18#8
  track := track

/-- The track of V-ENC-5: the ASCII codes of "1Z999AA10123456784". -/
def track18 : List Byte :=
  [0x31#8, 0x5A#8, 0x39#8, 0x39#8, 0x39#8, 0x41#8, 0x41#8, 0x31#8, 0x30#8, 0x31#8, 0x32#8, 0x33#8, 0x34#8, 0x35#8,
   0x36#8, 0x37#8, 0x38#8, 0x34#8]

/-- The first event record of V-DEC-5 and V-DEC-7. -/
def event1 : RawEvent :=
  #v[0x00#8, 0x00#8, 0x00#8, 0x00#8, 0xE2#8, 0x07#8, 0x01#8, 0x02#8, 0x02#8, 0x03#8, 0x04#8, 0x05#8, 0xDD#8, 0xCC#8,
     0xBB#8, 0xAA#8]

/-- The second event record of V-DEC-7. -/
def event2 : RawEvent :=
  #v[0x01#8, 0xAA#8, 0xBB#8, 0xCC#8, 0xE3#8, 0x07#8, 0x06#8, 0x0F#8, 0x06#8, 0x0C#8, 0x1E#8, 0x00#8, 0x01#8, 0x00#8,
     0x00#8, 0x00#8]

/-! ### WellFormed refuses what is no instruction -/

/-- 10_state.md R31: a track one byte over MAX_TRACK_LEN. -/
theorem test_wellFormed_overlong_init :
    (Instr.encInit (initWith (List.replicate (Config.maxTrackLen + 1) 0x41#8))).wellFormed = false := by
  simp [Instr.wellFormed, initWith]

/-- 00_scope.md R6: 18 tracking bytes are always admitted. -/
theorem test_wellFormed_init_18 : (Instr.encInit (initWith track18)).wellFormed = true := by
  simp [Instr.wellFormed, initWith, track18, Config.maxTrackLen]

/-- 30_encoding.md R63: one record under a count byte of 2. -/
theorem test_wellFormed_dump_count :
    (Instr.decDump 0x00#8 #v[0x00#8, 0x00#8, 0x02#8, 0x00#8] [event1] 0x00#8).wellFormed = false := by decide

/-- 42_decoder.md R108: the four recognized types are not UNRECOGNIZED. -/
theorem test_wellFormed_recognized :
    [0x80#8, 0x81#8, 0x82#8, 0x8F#8].all (fun t => !(Instr.decUnrecognized t 0x00#8).wellFormed) = true := by decide

/-- 40_checksum.md R78: a checksum has at least one byte. -/
theorem test_wellFormed_empty_chk : (Instr.chk []).wellFormed = false := by decide

/-! ### Decoding: words written out from the spec's encodings -/

/-- V-ENC-1. -/
theorem test_decode_encStatus : decodeFrame [0x00#8, 0x00#8, 0x00#8] = .ok .encStatus := by rfl

/-- V-ENC-2. -/
theorem test_decode_encDump : decodeFrame [0x02#8, 0x01#8, 0x8A#8, 0x89#8] = .ok (.encDump 0x8A#8) := by rfl

/-- V-ENC-5, mode FIXED. -/
theorem test_decode_encInit :
    decodeFrame ([0x01#8, 0x22#8, 0x34#8, 0x12#8, 0x00#8, 0x00#8, 0xE2#8, 0x07#8, 0x01#8, 0x02#8, 0x02#8, 0x03#8,
      0x04#8, 0x05#8, 0x11#8, 0x22#8, 0x01#8, 0x12#8] ++ track18 ++ [0xAC#8]) = .ok (.encInit (initWith track18)) := by
  simp [decodeFrame, decodeInitTail, track18, Config.maxTrackLen, initWith, le16]

/-- V-DEC-1. -/
theorem test_decode_decAck : decodeFrame [0x80#8, 0x00#8, 0x80#8] = .ok (.decAck 0x00#8 0x80#8) := by rfl

/-- V-DEC-3b. -/
theorem test_decode_decNak : decodeFrame [0x8F#8, 0x05#8, 0x8A#8] = .ok (.decNak 0x05#8 0x8A#8) := by rfl

/-- V-DEC-4. -/
theorem test_decode_decStatus :
    decodeFrame [0x81#8, 0x04#8, 0x34#8, 0x12#8, 0x01#8, 0x00#8, 0xA2#8]
      = .ok (.decStatus 0x04#8 #v[0x34#8, 0x12#8, 0x01#8, 0x00#8] 0xA2#8) := by rfl

/-- V-DEC-7. -/
theorem test_decode_decDump :
    decodeFrame ([0x82#8, 0x24#8, 0x01#8, 0x00#8, 0x02#8, 0x00#8] ++ event1.toList ++ event2.toList ++ [0x67#8])
      = .ok (.decDump 0x24#8 #v[0x01#8, 0x00#8, 0x02#8, 0x00#8] [event1, event2] 0x67#8) := by rfl

/-- V-DEC-9b. -/
theorem test_decode_decUnrecognized : decodeFrame [0x7F#8, 0xFF#8] = .ok (.decUnrecognized 0x7F#8 0xFF#8) := by rfl

/-- The decoder refuses by name: no byte, a Dump cut short (30_encoding.md R67), a byte after an Ack. -/
theorem test_decode_refuses :
    decodeFrame [] = .error .noBytes ∧ decodeFrame [0x82#8, 0x04#8, 0x34#8, 0x12#8, 0x01#8, 0x00#8, 0xA0#8] = .error .truncated ∧
    decodeFrame [0x80#8, 0x00#8, 0x80#8, 0x00#8] = .error .surplus := ⟨rfl, rfl, rfl⟩

/-- The opcode table's words, one byte each. -/
theorem test_table_words :
    decodeTableWord 8 0x00 = some .encStatus ∧ decodeTableWord 8 0x02 = some (.encDump 0x00#8) ∧
    decodeTableWord 8 0x80 = some (.decAck 0x00#8 0x00#8) ∧ decodeTableWord 8 0x8F = some (.decNak 0x00#8 0x00#8) ∧
    decodeTableWord 8 0x81 = some (.decStatus 0x00#8 #v[0x00#8, 0x00#8, 0x00#8, 0x00#8] 0x00#8) ∧
    decodeTableWord 8 0x82 = some (.decDump 0x00#8 #v[0x00#8, 0x00#8, 0x00#8, 0x00#8] [] 0x00#8) ∧
    decodeTableWord 8 0x03 = some (.decUnrecognized 0x03#8 0x00#8) ∧
    (decodeTableWord 8 0x01).isSome = true := by decide

/-- A table word runs as the first instruction after reset: V-ENC-1's frame is accepted; an Ack makes its record. -/
theorem test_fetch_word :
    after (step (State.reset.withFetchWord 24 0x000000)) (fun s => (s.txState, s.txBuf))
      = some (.send, [0x00#8, 0x00#8, 0x00#8]) ∧
    after (step (State.reset.withFetchWord 24 0x800080)) (·.rxOut)
      = some (some (.ack 0x80#8 0x00#8 0x80#8 0x80#8 .pass)) := by decide

/-- 00_scope.md R9: a table word's frame waits with one byte to come; the step takes that byte and no other. -/
theorem test_fetch_last_byte :
    (State.reset.withFetchWord 24 0x800080).rxNread = 2 ∧
    (State.reset.withFetchWord 24 0x800080).sched = [.rx (.byte 0x80#8)] ∧
    after (step (State.reset.withFetchWord 24 0x800080)) (·.rxNread) = some 3 := by decide

/-- The Init row's word, run as the first instruction after reset. -/
theorem test_fetch_init : after (step (State.reset.withFetchWord 8 0x01)) (·.txN) = some 19 := by decide

/-! ### One step of each instruction -/

/-- V-ENC-1. -/
theorem test_encStatus :
    after (exec .encStatus State.reset) (fun s => (s.txBuf, s.txN, s.txI, s.txStatePort))
      = some ([0x00#8, 0x00#8, 0x00#8], 3, 0, 1#2) := by decide

/-- V-ENC-10: the offer waits while a frame is in TX_SEND. -/
theorem test_encStatus_waits : exec .encStatus (sending 2) = .next (sending 2) := by rfl

/-- V-ENC-2. -/
theorem test_encDump :
    after (exec (.encDump 0x8A#8) State.reset) (fun s => (s.txBuf, s.txN))
      = some ([0x02#8, 0x01#8, 0x8A#8, 0x89#8], 4) := by decide

/-- The 37 bytes of V-ENC-5, mode FIXED. -/
theorem test_encInit :
    after (exec (.encInit (initWith track18)) State.reset) (·.txBuf)
      = some ([0x01#8, 0x22#8, 0x34#8, 0x12#8, 0x00#8, 0x00#8, 0xE2#8, 0x07#8, 0x01#8, 0x02#8, 0x02#8, 0x03#8, 0x04#8,
          0x05#8, 0x11#8, 0x22#8, 0x01#8, 0x12#8] ++ track18 ++ [0xAC#8]) := by
  have h : track18.length ≤ Config.maxTrackLen := by simp [track18, Config.maxTrackLen]
  have h' : (initWith track18).track.length ≤ Config.maxTrackLen := h
  simp only [exec, execEncInit, show State.reset.cmdReady = true from rfl, if_pos h', if_true]
  decide

/-- V-ENC-7, mode DERIVED: the length byte follows the track, `track_len` is sent as given. -/
theorem test_encInit_derived :
    encode .derived (.encInit {
      pkgId := 0x0001#16, reserved := 0x0000#16, year := 2000#16, month := 2#8, day := 29#8, weekday := 2#8,
      hour := 0#8, minute := 0#8, second := 0#8, carrierCode := 0x00#8, userCode := 0x00#8, trackMode := 0x01#8,
      trackLen := 18#8, track := [0x41#8, 0x42#8, 0x43#8] })
      = some [0x01#8, 0x13#8, 0x01#8, 0x00#8, 0x00#8, 0x00#8, 0xD0#8, 0x07#8, 0x02#8, 0x1D#8, 0x02#8, 0x00#8, 0x00#8,
          0x00#8, 0x00#8, 0x00#8, 0x01#8, 0x12#8, 0x41#8, 0x42#8, 0x43#8, 0x8A#8] := by decide

/-- V-DEC-2b: the wrong trailer is data, not a stop. -/
theorem test_decAck :
    after (exec (.decAck 0x00#8 0x81#8) atHeader) (fun s => (s.rxOut, s.rxNread, s.running))
      = some (some (.ack 0x80#8 0x00#8 0x81#8 0x80#8 .fail), 3, true) := by decide

/-- V-DEC-3b: a Nak's checksum is its own. -/
theorem test_decNak :
    after (exec (.decNak 0x05#8 0x8A#8) atHeader) (·.rxOut)
      = some (some (.nak 0x8F#8 0x05#8 0x8A#8 0x8A#8 .pass)) := by decide

/-- V-DEC-8a: the unused payload byte is checksummed. -/
theorem test_decStatus :
    after (exec (.decStatus 0x04#8 #v[0xFF#8, 0xFF#8, 0x07#8, 0xEE#8] 0x6C#8) atHeader) (·.rxOut)
      = some (some (.status 0x81#8 0x04#8 #v[0xFF#8, 0xFF#8, 0x07#8, 0xEE#8] 0xFFFF#16 0x07#8 .error 0x6C#8 0x6C#8
          .pass)) := by decide

/-- V-DEC-7: two events, day before weekday, the unused bytes kept in `raw` only. -/
theorem test_decDump :
    after (exec (.decDump 0x24#8 #v[0x01#8, 0x00#8, 0x02#8, 0x00#8] [event1, event2] 0x67#8) atHeader) (·.rxOut)
      = some (some (.dump 0x82#8 0x24#8 #v[0x01#8, 0x00#8, 0x02#8, 0x00#8] 0x0001#16 0x02#8
          [{ raw := event1, flag := 0x00#8, eventKind := .drop, year := 2018#16, month := 1#8, day := 2#8,
             weekday := 2#8, hour := 3#8, minute := 4#8, second := 5#8, data := 0xAABBCCDD#32 },
           { raw := event2, flag := 0x01#8, eventKind := .flip, year := 2019#16, month := 6#8, day := 15#8,
             weekday := 6#8, hour := 12#8, minute := 30#8, second := 0#8, data := 0x00000001#32 }]
          0x67#8 0x67#8 .pass)) := by decide

/-- V-DEC-6: a count of 0 goes straight to the trailer. -/
theorem test_decDump_empty :
    after (exec (.decDump 0x04#8 #v[0x34#8, 0x12#8, 0x00#8, 0x00#8] [] 0xA0#8) atHeader) (fun s => (s.rxOut, s.rxNread))
      = some (some (.dump 0x82#8 0x04#8 #v[0x34#8, 0x12#8, 0x00#8, 0x00#8] 0x1234#16 0x00#8 [] 0xA0#8 0xA0#8 .pass), 7)
      := by decide

/-- V-DEC-9a. -/
theorem test_decUnrecognized :
    after (exec (.decUnrecognized 0x01#8 0x22#8) atHeader) (fun s => (s.rxOut, s.rxNread))
      = some (some (.unrecognized 0x01#8 0x22#8 .notChecked), 2) := by decide

/-- 40_checksum.md R78: the XOR of V-ENC-2's first three bytes. -/
theorem test_chk : after (exec (.chk [0x02#8, 0x01#8, 0x8A#8]) State.reset) (·.chkOut) = some (some 0x89#8) := by decide

/-- V-SES-1. -/
theorem test_hostQuit :
    after (runTurns [.cmd .quit, .boundary] State.reset) (fun s => (s.runningPort, s.txStatePort, s.rxStatePort, s.tx))
      = some (0#1, 2#2, 7#4, []) := by decide

/-! ### Byte steps, errors, sessions, reset -/

/-- V-DEC-4 fed byte by byte. -/
theorem test_bytes_status :
    after (feed ([0x81#8, 0x04#8, 0x34#8, 0x12#8, 0x01#8, 0x00#8, 0xA2#8].map .byte) atHeader) (·.rxOut)
      = some (some (.status 0x81#8 0x04#8 #v[0x34#8, 0x12#8, 0x01#8, 0x00#8] 0x1234#16 0x01#8 .tracking 0xA2#8 0xA2#8
          .pass)) := by decide

/-- V-ERR-7, its last answer: the read of the trailer fails after two bytes. -/
theorem test_err_trailer :
    after (runTurns [.rx .err, .evt] { afterType 0x80#8 with rxState := .trailer, rxNread := 2 })
        (fun s => (s.evt, s.rxStatePort, s.running))
      = some ([.transportError .trailer 2], 8#4, false) := by decide

/-- V-ERR-4, the record read off the whole-frame function of 42_decoder.md R112. -/
theorem test_err_events :
    wholeFrame ([0x82#8, 0x14#8, 0x34#8, 0x12#8, 0x01#8, 0x00#8, 0x00#8, 0x00#8, 0x00#8, 0x00#8].map .byte ++ [.err])
      = some { record := .transportError .events 10, used := 11 } := by decide

/-- 60_exceptions.md R124, as in V-ERR-8: TRANSPORT refuses a byte after the first two. -/
theorem test_err_tx :
    after (runTurn (.tx .err) (sending 2)) (fun s => (s.txI, s.txN, s.txStatePort, s.running, s.evt))
      = some (2, 4, 3#2, false, []) := by decide

/-- V-RST-1: no record is made of the frame that RESET cut off; the next byte is a first header byte. -/
theorem test_reset_mid_frame :
    after (runTurns [.reset, .boundary, .rx (.byte 0x80#8)]
        { afterType 0x82#8 with rxState := .evt, rxIdx := 2, rxNread := 8, rxCnt := 1#8 })
        (fun s => (s.rxState, s.rxIdx, s.rxType, s.evt))
      = some (.hdr, 1, 0x80#8, []) := by decide

/-! ### Witnesses: the hypotheses of the statements are met -/

/-- DEC in a terminal state, ENC in a terminal state, and a turn that runs. -/
theorem witness_OnlyResetLeavesTerminalStates :
    ([(TxState.closed, RxState.stopped), (.failed, .failed)].all fun x =>
      (after (runTurn (.cmd .status) { State.reset with running := false, txState := x.1, rxState := x.2 })
        (fun t => (t.txState, t.rxState))) == some x) = true ∧ Turn.cmd .status ≠ .reset := by decide

/-- ENC ready, as StatusRequestLoadsFrame, DumpRequestLoadsFrame and QuitClearsRunning ask. -/
theorem witness_StatusRequestLoadsFrame : State.reset.txState = .idle ∧ State.reset.running = true := by decide

theorem witness_DumpRequestLoadsFrame : State.reset.txState = .idle ∧ State.reset.running = true := by decide

/-- A track of 18 bytes, in both length modes, and a track of no byte. -/
theorem witness_InitRequestLoadsFrame :
    (initWith track18).track.length ≤ Config.maxTrackLen ∧ (initWith []).track.length ≤ Config.maxTrackLen ∧
      State.reset.initLenMode = .fixed ∧ { State.reset with initLenMode := .derived }.initLenMode = .derived ∧
      State.reset.txState = .idle ∧ State.reset.running = true := by
  simp [initWith, track18, Config.maxTrackLen, State.reset]

/-- A track of exactly MAX_TRACK_LEN bytes, and the other two frame requests. -/
theorem witness_AcceptanceStep :
    (Request.init (initWith (List.replicate Config.maxTrackLen 0x41#8))).instr.wellFormed = true ∧
      Request.status.instr.wellFormed = true ∧ encode .fixed Request.status.instr = some [0x00#8, 0x00#8, 0x00#8] ∧
      encode .fixed (Request.dump 0xFF#8).instr = some [0x02#8, 0x01#8, 0xFF#8, 0xFC#8] := by
  refine ⟨by simp [Request.instr, Instr.wellFormed, initWith], rfl, by decide, by decide⟩

/-- ENC not ready in two ways (a frame in TX_SEND; `running` cleared), and ENC ready. -/
theorem witness_CmdTransferOnlyWhenReady :
    ¬ ((sending 3).txState = .idle ∧ (sending 3).running = true) ∧
      ¬ ({ State.reset with running := false }.txState = .idle ∧ { State.reset with running := false }.running = true) ∧
      State.reset.txState = .idle ∧ State.reset.running = true ∧ Request.quit.instr.wellFormed = true := by decide

/-- One byte over MAX_TRACK_LEN, and a request that is admitted. -/
theorem witness_OverlongInitRefused :
    Config.maxTrackLen < (initWith (List.replicate (Config.maxTrackLen + 1) 0x41#8)).track.length ∧
      State.reset.txState = .idle ∧ State.reset.running = true ∧ Request.status.instr.wellFormed = true := by
  simp [initWith, State.reset, Request.instr, Instr.wellFormed]

/-- ENC's registers in TX_SEND are what the invariant says, at the first and at the last byte. -/
theorem witness_sending (i : Nat) (h : i < 4) : (sending i).EncOk := by
  refine ⟨rfl, ?_, ?_, fun _ => ⟨by simp [sending], by decide +revert⟩, fun _ => h, fun h => ?_⟩
  · simp only [sending]; omega
  · simp only [sending]; omega
  · simp [sending] at h

/-- The first byte of a frame and the last one. -/
theorem witness_SendStep :
    ((sending 0).txState = .send ∧ (sending 0).txI < (sending 0).txN ∧ (sending 0).txBuf[(sending 0).txI]? = some 0x02#8) ∧
      ((sending 3).txState = .send ∧ (sending 3).txI < (sending 3).txN ∧
        (sending 3).txBuf[(sending 3).txI]? = some 0x89#8 ∧ (sending 3).txI + 1 = (sending 3).txN) := by decide

theorem witness_TransportErrorOnSend :
    (sending 3).txState = .send ∧ (sending 3).txI < (sending 3).txN ∧
      (sending 3).txBuf[(sending 3).txI]? = some 0x89#8 ∧ (∀ v ∈ [Turn.tx .accept, .encCheck], v ≠ .reset) ∧
      ∃ t u, runTurn (.tx .err) (sending 3) = .next t ∧ runTurns [.tx .accept, .encCheck] t = .next u :=
  ⟨rfl, by decide, rfl, by decide, _, _, rfl, rfl⟩

/-- Turns of DEC and HOST between ENC's: a frame's whole rest sent, and a frame still under way. -/
theorem witness_FrameInSendGoesOutWhole :
    (sending 2).EncOk ∧ (sending 2).txState = .send ∧
      (∀ u ∈ [Turn.tx .accept, .boundary, .cmd .quit, .tx .accept], u ≠ .reset ∧ u ≠ .tx .err) ∧
      [Turn.tx .accept, .boundary, .cmd .quit, .tx .accept].count (.tx .accept) = (sending 2).txN - (sending 2).txI ∧
      (∃ t, runTurns [.tx .accept, .boundary, .cmd .quit, .tx .accept] (sending 2) = .next t) ∧
      [Turn.tx .accept, .boundary].count (.tx .accept) < (sending 2).txN - (sending 2).txI ∧
      (∃ t, runTurns [.tx .accept, .boundary] (sending 2) = .next t) :=
  ⟨witness_sending 2 (by decide), rfl, by decide, by decide, ⟨_, rfl⟩, by decide, ⟨_, rfl⟩⟩

theorem witness_AcceptedRequestSendsItsFrame :
    State.reset.txState = .idle ∧ State.reset.running = true ∧ Request.status.instr.wellFormed = true ∧
      encode State.reset.initLenMode Request.status.instr = some [0x00#8, 0x00#8, 0x00#8] ∧
      { State.reset with sched := [.cmd .status, .tx .accept, .tx .accept, .tx .accept, .encCheck] }.sched
        = .cmd .status :: List.replicate 3 (.tx .accept) ++ [.encCheck] := by decide

/-- Each of the three outbound frames. -/
theorem witness_TrailerIsChecksumOfTheRest :
    encode .fixed Request.status.instr = some [0x00#8, 0x00#8, 0x00#8] ∧
      encode .derived (Request.dump 0x8A#8).instr = some [0x02#8, 0x01#8, 0x8A#8, 0x89#8] ∧
      (encode .fixed (Request.init (initWith [])).instr).isSome = true := by decide

/-- DEC at a first header byte, as the statements about whole frames ask. -/
theorem witness_frame_start : atHeader.rxState = .hdr ∧ atHeader.rxIdx = 0 := by decide

theorem witness_LoopedBackFrameIsUnrecognized :
    encode .fixed Request.status.instr = some [0x00#8, 0x00#8, 0x00#8] ∧ atHeader.rxState = .hdr ∧ atHeader.rxIdx = 0 := by
  decide

theorem witness_AckFrameRecord : atHeader.rxState = .hdr ∧ atHeader.rxIdx = 0 := witness_frame_start

theorem witness_NakFrameRecord : atHeader.rxState = .hdr ∧ atHeader.rxIdx = 0 := witness_frame_start

/-- V-DEC-4's checksum. -/
theorem witness_StatusFrameRecord :
    atHeader.rxState = .hdr ∧ atHeader.rxIdx = 0 ∧
      0xA2#8 = 0x81#8 ^^^ 0x04#8 ^^^ 0x34#8 ^^^ 0x12#8 ^^^ 0x01#8 ^^^ 0x00#8 := by decide

/-- V-DEC-6 (no record), V-DEC-5 (one record), and a count of 255. -/
theorem witness_DumpFrameRecord :
    atHeader.rxState = .hdr ∧ atHeader.rxIdx = 0 ∧
      (([] : List RawEvent).length = (0x00#8).toNat ∧
        0xA0#8 = 0x82#8 ^^^ 0x04#8 ^^^ 0x34#8 ^^^ 0x12#8 ^^^ 0x00#8 ^^^ 0x00#8
          ^^^ (([] : List RawEvent).map fun r => compute r.toList).foldl (· ^^^ ·) 0x00#8) ∧
      ([event1].length = (0x01#8).toNat ∧
        0x57#8 = 0x82#8 ^^^ 0x14#8 ^^^ 0x34#8 ^^^ 0x12#8 ^^^ 0x01#8 ^^^ 0x00#8
          ^^^ ([event1].map fun r => compute r.toList).foldl (· ^^^ ·) 0x00#8) ∧
      (List.replicate 255 event1).length = (0xFF#8).toNat :=
  ⟨rfl, rfl, by decide, by decide, List.length_replicate⟩

/-- The neighbours of the four recognized types. -/
theorem witness_UnrecognizedFrameRecord :
    atHeader.rxState = .hdr ∧ atHeader.rxIdx = 0 ∧
      ∀ t ∈ [0x7F#8, 0x83#8, 0x8E#8, 0x90#8, 0x00#8, 0xFF#8], t ≠ 0x80#8 ∧ t ≠ 0x81#8 ∧ t ≠ 0x82#8 ∧ t ≠ 0x8F#8 := by
  decide

/-- DEC at a frame boundary and after one header byte; a term that is no frame. -/
theorem witness_FrameWaitsOrIsRefused :
    ((Instr.decAck 0x00#8 0x80#8).request = none ∧ (encode .fixed (.decAck 0x00#8 0x80#8)).isSome = true ∧
        (Instr.decAck 0x00#8 0x80#8).wellFormed = true ∧ ¬ (State.reset.rxState = .hdr ∧ State.reset.rxIdx = 0) ∧
        ¬ ((afterType 0x80#8).rxState = .hdr ∧ (afterType 0x80#8).rxIdx = 0)) ∧
      ((Instr.decUnrecognized 0x80#8 0x00#8).request = none ∧
        (encode .fixed (.decUnrecognized 0x80#8 0x00#8)).isSome = true ∧
        (Instr.decUnrecognized 0x80#8 0x00#8).wellFormed = false) := by decide

/-- The boundary values of the two value maps, and DEC at a Status frame's trailer. -/
theorem witness_ValueMapsOverEveryByte :
    (0x00#8).toNat = 0 ∧ (0x01#8).toNat = 1 ∧ 2 ≤ (0x02#8).toNat ∧ 2 ≤ (0xFF#8).toNat ∧ 1 ≤ (0x01#8).toNat ∧
      { afterType 0x81#8 with rxState := .trailer }.rxState = .trailer ∧
      { afterType 0x81#8 with rxState := .trailer }.rxType = 0x81#8 := by decide

/-- A failed checksum and an unknown type. -/
theorem witness_DataErrorsDoNotStopTheSession :
    (∀ i ∈ [Instr.decAck 0x00#8 0x81#8, .decUnrecognized 0x05#8 0x03#8],
      i.request = none ∧ (encode .fixed i).isSome = true ∧ i.wellFormed = true) ∧
      atHeader.rxState = .hdr ∧ atHeader.rxIdx = 0 := by decide

/-- Each clause of the dispatch. -/
theorem witness_HeaderBytesAndDispatch :
    (atHeader.rxState = .hdr ∧ atHeader.rxIdx = 0 ∧ atHeader.rxNread = 0) ∧
      ∀ t ∈ [0x80#8, 0x8F#8, 0x81#8, 0x82#8, 0x7F#8],
        (afterType t).rxState = .hdr ∧ (afterType t).rxIdx = 1 ∧ (afterType t).rxNread = 1 ∧ (afterType t).rxType = t := by
  decide

/-- Each reading state, at the last byte it reads. -/
theorem witness_TransportErrorOnRead :
    ((afterType 0x81#8).rxState = .hdr ∧ (afterType 0x81#8).rxIdx ≤ 1) ∧
      ({ afterType 0x81#8 with rxState := .pay, rxIdx := 3 }.rxState = .pay ∧
        { afterType 0x81#8 with rxState := .pay, rxIdx := 3 }.rxIdx ≤ 3) ∧
      ({ afterType 0x82#8 with rxState := .evt, rxIdx := 15, rxCnt := 1#8 }.rxState = .evt ∧
        { afterType 0x82#8 with rxState := .evt, rxIdx := 15, rxCnt := 1#8 }.rxIdx ≤ 15 ∧
        { afterType 0x82#8 with rxState := .evt, rxIdx := 15, rxCnt := 1#8 }.rxEvi
          < { afterType 0x82#8 with rxState := .evt, rxIdx := 15, rxCnt := 1#8 }.rxCnt.toNat) ∧
      { afterType 0x80#8 with rxState := .trailer }.rxState = .trailer := by decide

theorem witness_HandOverToHost :
    ((waiting .emit (.unrecognized 0x05#8 0x03#8 .notChecked)).rxState = .emit ∧
        (waiting .emit (.unrecognized 0x05#8 0x03#8 .notChecked)).rxOut
          = some (.unrecognized 0x05#8 0x03#8 .notChecked)) ∧
      ((waiting .emitErr (.transportError .header 0)).rxState = .emitErr ∧
        (waiting .emitErr (.transportError .header 0)).rxOut = some (.transportError .header 0)) := by decide

theorem witness_NothingIsReadUnlessAsked :
    ∀ x ∈ [RxState.idle, .emit, .emitErr, .stopped, .failed],
      { State.reset with rxState := x }.rxState = .idle ∨ { State.reset with rxState := x }.rxState = .emit ∨
        { State.reset with rxState := x }.rxState = .emitErr ∨ { State.reset with rxState := x }.rxState = .stopped ∨
        { State.reset with rxState := x }.rxState = .failed := by decide

theorem witness_ByteStepsRunTheFrame :
    (Instr.decDump 0x14#8 #v[0x34#8, 0x12#8, 0x01#8, 0x00#8] [event1] 0x57#8).request = none ∧
      (Instr.decDump 0x14#8 #v[0x34#8, 0x12#8, 0x01#8, 0x00#8] [event1] 0x57#8).wellFormed = true ∧
      encode .fixed (.decDump 0x14#8 #v[0x34#8, 0x12#8, 0x01#8, 0x00#8] [event1] 0x57#8)
        = some ([0x82#8, 0x14#8, 0x34#8, 0x12#8, 0x01#8, 0x00#8] ++ event1.toList ++ [0x57#8]) ∧
      atHeader.rxState = .hdr ∧ atHeader.rxIdx = 0 := by decide

/-- Answers that make a record, answers that stop first, an `Err` before any byte. -/
theorem witness_ByteStepsGiveWholeFrameRecord :
    atHeader.rxState = .hdr ∧ atHeader.rxIdx = 0 ∧ atHeader.rxNread = 0 ∧
      (wholeFrame ([0x80#8, 0x00#8, 0x80#8].map .byte)).isSome = true ∧
      wholeFrame ([0x80#8, 0x00#8].map .byte) = none ∧
      wholeFrame [.err] = some { record := .transportError .header 0, used := 1 } := by decide

/-- Two states at a frame boundary whose data registers differ. -/
theorem witness_OldRegistersNeverReachARecord :
    State.reset.rxState = .idle ∧ { State.reset with rxAcc := 0xFF#8, rxIdx := 3, rxNread := 7 }.rxState = .idle ∧
      State.reset.running = true ∧ { State.reset with rxAcc := 0xFF#8, rxIdx := 3, rxNread := 7 }.running = true ∧
      State.reset.rxOut = { State.reset with rxAcc := 0xFF#8, rxIdx := 3, rxNread := 7 }.rxOut ∧
      (∃ t, runTurns (.boundary :: ([0x80#8, 0x00#8, 0x80#8].map .byte).map .rx) State.reset = .next t) ∧
      (∃ t, runTurns (.boundary :: ([0x80#8, 0x00#8, 0x80#8].map .byte).map .rx)
        { State.reset with rxAcc := 0xFF#8, rxIdx := 3, rxNread := 7 } = .next t) :=
  ⟨rfl, rfl, rfl, rfl, rfl, ⟨_, rfl⟩, ⟨_, rfl⟩⟩

theorem witness_QuitClearsRunning :
    State.reset.txState = .idle ∧ State.reset.running = true ∧
      ¬ ((sending 1).txState = .idle ∧ (sending 1).running = true) := by decide

theorem witness_EncClosesOnceRunningIsClear :
    ({ State.reset with running := false }.txState = .idle ∧ { State.reset with running := false }.running = false) ∧
      ¬ (State.reset.txState = .idle ∧ State.reset.running = false) ∧
      ¬ ({ sending 0 with running := false }.txState = .idle ∧ { sending 0 with running := false }.running = false) := by
  decide

/-- DEC at the frame boundary with `running` set and cleared, in a frame, and stopped with a turn that runs. -/
theorem witness_FrameBoundaryCheck :
    (State.reset.rxState = .idle ∧ State.reset.running = true) ∧
      ({ State.reset with running := false }.rxState = .idle ∧ { State.reset with running := false }.running = false) ∧
      atHeader.rxState ≠ .idle ∧ { State.reset with rxState := .stopped }.rxState = .stopped ∧
      Turn.encCheck ≠ .reset ∧ (∃ t, runTurn .encCheck { State.reset with rxState := .stopped } = .next t) :=
  ⟨by decide, by decide, by decide, rfl, by decide, ⟨_, rfl⟩⟩

theorem witness_QuitAndBoundaryRace :
    State.reset.rxState = .idle ∧ State.reset.txState = .idle ∧ State.reset.running = true := by decide

theorem witness_RunningIsNeverSetAgain :
    (∀ u ∈ [Turn.boundary, .encCheck, .cmd .status], u ≠ .reset) ∧ { State.reset with running := false }.running = false ∧
      ∃ t, runTurns [.boundary, .encCheck, .cmd .status] { State.reset with running := false } = .next t :=
  ⟨by decide, rfl, ⟨_, rfl⟩⟩

/-- ENC in the middle of a frame and ENC idle with `running` cleared; DEC at the frame boundary. -/
theorem witness_ErrorOnOneSideStopsTheOther :
    ({ sending 2 with running := false }.EncOk ∧ { sending 2 with running := false }.running = false ∧
        { sending 2 with running := false }.txState = .send) ∧
      ({ State.reset with running := false }.EncOk ∧ { State.reset with running := false }.txState = .idle ∧
        { State.reset with running := false }.rxState = .idle) := by
  refine ⟨⟨?_, rfl, rfl⟩, ?_, rfl, rfl⟩
  · exact witness_sending 2 (by decide)
  · exact ⟨rfl, Nat.le_refl _, Nat.zero_le _, fun h => absurd rfl h, fun h => by simp [State.reset] at h, fun _ => rfl⟩

/-- Each hold, with a turn that is not its collaborator's. -/
theorem witness_HoldsWaitForTheirCollaborator :
    (atHeader.decHold = some .rxByte ∧ ∃ t, runTurn .evt atHeader = .next t) ∧
      ((waiting .emit (.unrecognized 0x05#8 0x03#8 .notChecked)).decHold = some .emit ∧
        ∃ t, runTurn .boundary (waiting .emit (.unrecognized 0x05#8 0x03#8 .notChecked)) = .next t) ∧
      ((sending 2).encHold = some .txByte ∧ ∃ t, runTurn (.cmd .quit) (sending 2) = .next t) ∧
      (State.reset.encHold = some .cmd ∧ ∃ t, runTurn .encCheck State.reset = .next t) ∧
      (∀ a, Turn.evt ≠ .rx a) ∧ (∀ a, Turn.cmd .quit ≠ .tx a) ∧
      (∀ r, Turn.encCheck ≠ .cmd r) ∧ Turn.boundary ≠ .evt := by
  refine ⟨⟨rfl, _, rfl⟩, ⟨rfl, _, rfl⟩, ⟨rfl, _, rfl⟩, ⟨rfl, _, rfl⟩, ?_, ?_, ?_, ?_⟩ <;> simp

theorem witness_AgentsTouchOnlyTheirOwn :
    (∃ t, runTurn .encCheck State.reset = .next t) ∧ (∃ t, runTurn (.cmd .status) State.reset = .next t) ∧
      (∃ t, runTurn (.tx .err) (sending 0) = .next t) ∧ (∃ t, runTurn .boundary State.reset = .next t) ∧
      (∃ t, runTurn .evt (waiting .emitErr (.transportError .header 0)) = .next t) ∧
      (∃ t, runTurn (.rx .err) atHeader = .next t) ∧ (∃ t, runTurns (rxLine [0x05#8, 0x03#8]) atHeader = .next t) :=
  ⟨⟨_, rfl⟩, ⟨_, rfl⟩, ⟨_, rfl⟩, ⟨_, rfl⟩, ⟨_, rfl⟩, ⟨_, rfl⟩, ⟨_, rfl⟩⟩

/-- Errors on both sides at once; an accepted byte beside DEC's boundary check. -/
theorem witness_SendAndReadCommute :
    (∃ u : Turn, (u = .evt ∨ (∃ x, u = .rx x) ∨ u = .boundary ∧ TxAnswer.err = .accept) ∧
      ∃ t, runTurns [.tx .err, u] { sending 0 with rxState := .hdr } = .next t) ∧
      (∃ u : Turn, (u = .evt ∨ (∃ x, u = .rx x) ∨ u = .boundary ∧ TxAnswer.accept = .accept) ∧
        ∃ t, runTurns [.tx .accept, u] (sending 0) = .next t) :=
  ⟨⟨.rx .err, .inr (.inl ⟨_, rfl⟩), _, rfl⟩, ⟨.boundary, .inr (.inr ⟨rfl, rfl⟩), _, rfl⟩⟩

theorem witness_ChecksumIgnoresOrderAndGrouping :
    [0x01#8, 0x02#8].Perm [0x02#8, 0x01#8] ∧ [0x01#8] ≠ [] ∧ [0x02#8] ≠ [] ∧
      ∀ b : Byte, [0x01#8, 0x02#8, 0x01#8].count b % 2 = [0x02#8].count b % 2 :=
  ⟨.swap .., by decide, by decide, by decide⟩

/-- A trailer that passes and one that does not. -/
theorem witness_TrailerPassesIffWholeXorIsZero :
    [0x80#8, 0x00#8] ≠ [] ∧ checkTrailer 0x80#8 (compute [0x80#8, 0x00#8]) = .pass ∧
      checkTrailer 0x81#8 (compute [0x80#8, 0x00#8]) ≠ .pass := by decide

theorem witness_WhatTheChecksumCatches :
    [0x01#8].length = [0x02#8].length ∧ 0 < 8 ∧ 7 < 8 ∧ (0x01#8 ≠ 0x02#8) := by decide

/-- One outbound and one inbound frame. -/
theorem witness_DecodeEncodeAgree :
    ((Instr.encDump 0x8A#8).wellFormed = true ∧ (Instr.encDump 0x8A#8).request.isSome = true ∧
        encode .fixed (.encDump 0x8A#8) = some [0x02#8, 0x01#8, 0x8A#8, 0x89#8]) ∧
      ((Instr.decNak 0x05#8 0x8A#8).wellFormed = true ∧ (Instr.decNak 0x05#8 0x8A#8).request = none ∧
        encode .fixed (.decNak 0x05#8 0x8A#8) = some [0x8F#8, 0x05#8, 0x8A#8]) := by decide

/-- A frame with bytes after it, a frame cut short, no byte, and bytes enough for any frame. -/
theorem witness_InboundBytesHaveOneMeaning :
    decodeInbound [0x80#8, 0x00#8, 0x80#8, 0x81#8] = .ok (.decAck 0x00#8 0x80#8, [0x81#8]) ∧
      decodeInbound [0x80#8, 0x00#8] = .error .truncated ∧ decodeInbound [] = .error .noBytes ∧
      4087 ≤ (List.replicate 4087 0x82#8).length :=
  ⟨rfl, rfl, rfl, Nat.le_of_eq List.length_replicate.symm⟩

theorem witness_StepRunsTheDecodedInstruction :
    { State.reset with sched := [.cmd .status] }.sched = .cmd .status :: [] ∧
      ({ atHeader with sched := rxLine [0x80#8, 0x00#8, 0x80#8] }.sched = rxLine [0x80#8, 0x00#8, 0x80#8] ++ [] ∧
        { atHeader with sched := rxLine [0x80#8, 0x00#8, 0x80#8] }.rxState = .hdr ∧
        { atHeader with sched := rxLine [0x80#8, 0x00#8, 0x80#8] }.rxIdx = 0 ∧
        decodeInbound [0x80#8, 0x00#8, 0x80#8] = .ok (.decAck 0x00#8 0x80#8, [])) := ⟨rfl, rfl, rfl, rfl, rfl⟩

theorem witness_FetchWordRunsTheTableInstruction :
    (decodeTableWord 24 0x8A058F = some (.decNak 0x05#8 0x8A#8) ∧ (Instr.decNak 0x05#8 0x8A#8).wellFormed = true ∧
        (Instr.decNak 0x05#8 0x8A#8).request = none) ∧
      (decodeTableWord 8 0x02 = some (.encDump 0x00#8) ∧ (Instr.encDump 0x00#8).wellFormed = true ∧
        (Instr.encDump 0x00#8).request = some (.dump 0x00#8)) := by decide

/-- DEC after one header byte, ENC in the middle of a frame, HOST holding a record, any schedule: the invariant holds. -/
theorem witness_inv (us : List Turn) :
    { afterType 0x82#8 with
      txBuf := [0x02#8, 0x01#8, 0x8A#8, 0x89#8], txN := 4, txI := 2, txState := .send
      evt := [.unrecognized 0x05#8 0x03#8 .notChecked], sched := us }.Inv := by
  refine ⟨⟨rfl, Nat.le_refl _⟩, fun _ => ⟨rfl, fun _ => rfl⟩, witness_sending 2 (by decide), fun _ => ?_, ?_⟩
  · simp [afterType, atHeader, State.enterHeader]
  · simp [State.EvtOk, Record.Consistent, recognizedType]

/-- The invariant and a step that gives a next state. -/
theorem witness_EveryStepKeepsTheInvariant :
    ∃ s t : State, s.Inv ∧ step s = .next t ∧ s.rxNread = 1 ∧ t.rxNread = 2 :=
  ⟨_, _, witness_inv [.rx (.byte 0x14#8)], rfl, rfl, rfl⟩

/-- A step that takes a byte, and one that evaluates CHK. -/
theorem witness_StepIsOneAtomicTransition :
    (∃ s t : State, s.Inv ∧ s.nextTurn ≠ .reset ∧ step s = .next t ∧ t.rxNread = s.rxNread + 1) ∧
      ∃ s t : State, s.Inv ∧ s.nextTurn ≠ .reset ∧ step s = .next t ∧ s.nextTurn = .chk [0x02#8] :=
  ⟨⟨_, _, witness_inv [.rx (.byte 0x14#8)], by decide, rfl, rfl⟩, _, _, witness_inv [.chk [0x02#8]], by decide, rfl, rfl⟩

theorem witness_InvariantStatesNeverFault : ∃ s : State, s.Inv ∧ s.rxState = .hdr := ⟨_, witness_inv [], rfl⟩

/-- HOST offers an over-long Init where ENC would take it. -/
theorem witness_OnlyAnOverlongInitIsRefused :
    step { State.reset with sched := [.cmd (.init (initWith (List.replicate (Config.maxTrackLen + 1) 0x41#8)))] }
      = .refused .trackTooLong := by
  simp [step, State.nextTurn, State.dropTurn, runTurn, Request.instr, exec, execEncInit, State.cmdReady, State.reset,
    initWith]

/-- A record with a failed checksum and one with a checksum that passed, of a kind that has one. -/
theorem witness_ErrorClassesOfRecords :
    ((Record.ack 0x80#8 0x00#8 0x81#8 0x80#8 .fail).outcome = some .fail ∧
        (Record.ack 0x80#8 0x00#8 0x81#8 0x80#8 .fail).kind ≠ .unrecognized) ∧
      ((Record.ack 0x80#8 0x00#8 0x80#8 0x80#8 .pass).outcome = some .pass ∧
        (Record.ack 0x80#8 0x00#8 0x80#8 0x80#8 .pass).kind ≠ .unrecognized) := by decide

end Sys2Proof.Tests
end

section
/-! 00_scope.md R9: one step is one transition of one agent. What a turn may move is stated once (`OneTransition`),
shown turn by turn, and carried over to `step`. -/

namespace Sys2Proof.Machine

/-! ### Taking a turn off the schedule -/

@[simp] theorem State.dropTurn_sched (s : State) : s.dropTurn.sched = s.sched.drop 1 := by
  unfold State.dropTurn
  split <;> simp_all

theorem dropTurn_sameDec (s : State) : s.SameDec s.dropTurn := by simp [State.SameDec]

theorem dropTurn_sameEnc (s : State) : s.SameEnc s.dropTurn := by simp [State.SameEnc]

@[simp] theorem State.dropTurn_offered (s : State) : s.dropTurn.offered = s.offered := by simp [State.offered]

theorem State.SameDec.trans {s t u : State} (h : s.SameDec t) (h' : t.SameDec u) : s.SameDec u := by
  simp_all [State.SameDec]

theorem State.SameEnc.trans {s t u : State} (h : s.SameEnc t) (h' : t.SameEnc u) : s.SameEnc u := by
  simp_all [State.SameEnc]

/-! ### How many bytes a byte step counts -/

@[simp] theorem State.headerByte1_rxNread (b : Byte) (s : State) : (s.headerByte1 b).rxNread = 2 := by
  unfold State.headerByte1
  dsimp only
  split <;> [skip; split] <;> simp

@[simp] theorem State.payloadByte_rxNread (b : Byte) (s : State) : (s.payloadByte b).rxNread = s.rxNread + 1 := by
  unfold State.payloadByte
  dsimp only
  split <;> [skip; split <;> [skip; split]] <;> rfl

@[simp] theorem State.recordByte_rxNread (b : Byte) (s : State) : (s.recordByte b).rxNread = s.rxNread + 1 := by
  unfold State.recordByte
  dsimp only
  split <;> [skip; split] <;> rfl

/-- Where DEC asks for the second header byte, it has counted the first one. -/
def State.HeaderCounted (s : State) : Prop := s.rxState = .hdr → s.rxIdx ≠ 0 → s.rxNread = 1

/-- 40_checksum.md R83: with the first header byte taken, the frame so far is that byte alone. -/
theorem State.AccOk.headerCounted {s : State} (h : s.AccOk) : s.HeaderCounted := by
  intro hs hi
  obtain ⟨hn, -⟩ := h (.inl hs)
  simpa [State.frameSoFar, hs, hi] using hn

/-- Header byte 1 is where the invariant is needed: R98 sets `rx_nread` to 2 whatever it was. -/
theorem takeByte_rxNread_le {b : Byte} {s t : State} (hc : s.HeaderCounted) (h : takeByte b s = .next t) :
    t.rxNread ≤ s.rxNread + 1 := by
  unfold takeByte at h
  split at h
  case h_1 hs =>
    cases h
    split
    · simp
    · have : s.rxNread = 1 := hc hs ‹_›
      simp [this]
  case h_4 =>
    rcases trailerByte_cases b s with ⟨r, -, e⟩ | ⟨-, e⟩ <;> rw [e] at h <;> cases h
    simp
  all_goals
    cases h
    simp

/-! ### A turn moves one agent -/

/-- What R9 allows a turn other than RESET to change once it is off the schedule. -/
structure OneTransition (s t : State) : Prop where
  bytesTaken : t.rxNread ≤ s.rxNread + 1
  bytesGiven : t.tx = s.tx ∨ ∃ b, s.offered = some b ∧ t.tx = s.tx ++ [b]
  recordsGiven : t.evt = s.evt ∨ ∃ r, s.rxOut = some r ∧ t.evt = s.evt ++ [r]
  oneAgent : s.SameDec t ∧ t.evt = s.evt ∨ s.SameEnc t ∧ t.tx = s.tx
  schedule : t.sched = s.sched

/-- A transition of ENC: only the TX stream is left to look at. -/
theorem OneTransition.of_sameDec {s t : State} (hd : s.SameDec t) (he : t.evt = s.evt) (hs : t.sched = s.sched)
    (htx : t.tx = s.tx ∨ ∃ b, s.offered = some b ∧ t.tx = s.tx ++ [b]) : OneTransition s t := by
  have hn : t.rxNread = s.rxNread := by
    obtain ⟨-, -, -, -, -, -, -, -, -, -, -, hn, -⟩ := hd
    exact hn
  exact ⟨by omega, htx, .inl he, .inl ⟨hd, he⟩, hs⟩

/-- A transition of DEC: only the byte count and the records handed over are left to look at. -/
theorem OneTransition.of_sameEnc {s t : State} (he : s.SameEnc t) (htx : t.tx = s.tx) (hs : t.sched = s.sched)
    (hn : t.rxNread ≤ s.rxNread + 1) (hevt : t.evt = s.evt ∨ ∃ r, s.rxOut = some r ∧ t.evt = s.evt ++ [r]) :
    OneTransition s t :=
  ⟨hn, .inl htx, hevt, .inr ⟨he, htx⟩, hs⟩

theorem OneTransition.refl (s : State) : OneTransition s s :=
  .of_sameDec (by simp [State.SameDec]) rfl rfl (.inl rfl)

theorem boundaryStep_oneTransition (s : State) : OneTransition s (boundaryStep s) := by
  rcases boundaryStep_cases s with ⟨-, -, e⟩ | ⟨-, -, e⟩ | ⟨-, e⟩ <;> rw [e]
  · exact .of_sameEnc (by simp [State.SameEnc]) rfl rfl (by simp) (.inl rfl)
  · exact .of_sameEnc (by simp [State.SameEnc]) rfl rfl (by simp) (.inl rfl)
  · exact .refl s

theorem encCheckStep_oneTransition (s : State) : OneTransition s (encCheckStep s) := by
  rcases encCheckStep_cases s with ⟨-, e⟩ | ⟨-, e⟩ <;> rw [e]
  · exact .of_sameDec (by simp [State.SameDec]) rfl rfl (.inl rfl)
  · exact .refl s

/-- A request on CMD: every next state it can have. -/
theorem exec_request_cases {r : Request} {s t : State} (h : exec r.instr s = .next t) :
    t = s ∨ (∃ buf, t = s.loadFrame buf) ∨ t = s.quit := by
  have accept (buf : List Byte) : acceptFrame buf s = s ∨ (∃ buf', acceptFrame buf s = s.loadFrame buf') ∨
      acceptFrame buf s = s.quit := by
    rcases acceptFrame_cases buf s with ⟨-, e⟩ | ⟨-, e⟩
    · exact .inr (.inl ⟨buf, e⟩)
    · exact .inl e
  cases r with
  | status =>
    cases h
    exact accept encodeStatus
  | dump code =>
    cases h
    exact accept (encodeDump code)
  | init f =>
    have h : execEncInit f s = .next t := h
    unfold execEncInit at h
    split at h
    · split at h
      · cases h
        exact accept (encodeInit s.initLenMode f)
      · cases h
    · cases h
      exact .inl rfl
  | quit =>
    cases h
    split
    · exact .inr (.inr rfl)
    · exact .inl rfl

theorem exec_request_oneTransition {r : Request} {s t : State} (h : exec r.instr s = .next t) : OneTransition s t := by
  rcases exec_request_cases h with rfl | ⟨buf, rfl⟩ | rfl
  · exact .refl t
  · exact .of_sameDec (by simp [State.SameDec]) rfl rfl (.inl rfl)
  · exact .of_sameDec (by simp [State.SameDec]) rfl rfl (.inl rfl)

theorem txStep_oneTransition (a : TxAnswer) (s : State) : OneTransition s (txStep a s) := by
  rcases txStep_cases a s with ⟨-, e⟩ | ⟨b, hb, ⟨-, e⟩ | ⟨-, e⟩⟩ <;> rw [e]
  · exact .refl s
  · exact .of_sameDec (by simp [State.SameDec]) rfl rfl (.inr ⟨b, hb, rfl⟩)
  · exact .of_sameDec (by simp [State.SameDec]) rfl rfl (.inl rfl)

theorem rxStep_rxNread_le {a : RxAnswer} {s t : State} (hc : s.HeaderCounted) (h : rxStep a s = .next t) :
    t.rxNread ≤ s.rxNread + 1 := by
  rcases rxStep_cases a s with ⟨-, e⟩ | ⟨-, b, -, e⟩ | ⟨-, -, ph, -, e⟩ <;> rw [e] at h
  · cases h
    simp
  · exact takeByte_rxNread_le hc h
  · cases h
    simp

theorem rxStep_oneTransition {a : RxAnswer} {s t : State} (hc : s.HeaderCounted) (h : rxStep a s = .next t) :
    OneTransition s t := by
  obtain ⟨hst, hbuf, hn, hi, htx, hevt, -, -, hsched, -⟩ := rxStep_frame h
  exact .of_sameEnc ⟨hst, hbuf, hn, hi⟩ htx hsched (rxStep_rxNread_le hc h) (.inl hevt)

theorem evtStep_oneTransition (s : State) : OneTransition s (evtStep s) := by
  rcases evtStep_cases s with ⟨r, -, hr, e⟩ | ⟨r, -, hr, e⟩ | e <;> rw [e]
  · exact .of_sameEnc (by simp [State.SameEnc]) rfl rfl (by simp) (.inr ⟨r, hr, rfl⟩)
  · exact .of_sameEnc (by simp [State.SameEnc]) rfl rfl (by simp) (.inr ⟨r, hr, rfl⟩)
  · exact .refl s

/-- CHK writes the model's own field `chkOut` alone (log entry 13). -/
theorem runTurn_chk_frame {bs : List Byte} {s t : State} (h : runTurn (.chk bs) s = .next t) :
    s.SameDec t ∧ s.SameEnc t ∧ t.tx = s.tx ∧ t.evt = s.evt ∧ t.running = s.running ∧ t.sched = s.sched := by
  cases h
  simp [State.SameDec, State.SameEnc]

/-- R9 for one turn, whatever agent it belongs to. -/
theorem runTurn_oneTransition {u : Turn} {s t : State} (hc : s.HeaderCounted) (hu : u ≠ .reset)
    (h : runTurn u s = .next t) : OneTransition s t := by
  cases u with
  | boundary => cases h; exact boundaryStep_oneTransition s
  | encCheck => cases h; exact encCheckStep_oneTransition s
  | cmd r => exact exec_request_oneTransition h
  | tx a => cases h; exact txStep_oneTransition a s
  | rx a => exact rxStep_oneTransition hc h
  | evt => cases h; exact evtStep_oneTransition s
  | chk bs =>
    obtain ⟨hd, -, htx, hevt, -, hsched⟩ := runTurn_chk_frame h
    exact .of_sameDec hd hevt hsched (.inl htx)
  | reset => exact absurd rfl hu

/-- Settles O60: the next turn is one transition from the state without it on the schedule, and CHK's turn has its
frame. -/
theorem stepIsOneAtomicTransition : Obligations.StepIsOneAtomicTransition := by
  intro s t hinv hreset hstep
  obtain ⟨-, hacc, -⟩ := hinv
  rw [step_eq] at hstep
  have hc : s.dropTurn.HeaderCounted := by simpa [State.HeaderCounted] using hacc.headerCounted
  obtain ⟨htaken, hgiven, hrecords, hagent, hsched⟩ := runTurn_oneTransition hc hreset hstep
  refine ⟨by simpa using htaken, by simpa using hgiven, by simpa using hrecords, ?_, by simpa using hsched, ?_⟩
  · refine hagent.imp (fun ⟨hd, hevt⟩ => ?_) (fun ⟨he, htx⟩ => ?_)
    · exact ⟨(dropTurn_sameDec s).trans hd, by simpa using hevt⟩
    · exact ⟨(dropTurn_sameEnc s).trans he, by simpa using htx⟩
  · intro bs hchk
    rw [hchk] at hstep
    obtain ⟨hd, he, htx, hevt, hrun, -⟩ := runTurn_chk_frame hstep
    exact ⟨(dropTurn_sameDec s).trans hd, (dropTurn_sameEnc s).trans he, by simpa using htx, by simpa using hevt,
      by simpa using hrun⟩

end Sys2Proof.Machine
end

section
/-! 10_state.md R18, R20, R25, R34: the registers after reset, and the codes on the level ports. -/

namespace Sys2Proof.Machine

/-- Settles O1: each register of the reset table, `rx_rec` byte by byte. -/
theorem registersAfterReset : Obligations.RegistersAfterReset := by
  have hrec (i : Fin 16) : State.reset.rxRec[i] = 0x00#8 := by simp [State.reset]
  exact ⟨rfl, rfl, rfl, rfl, rfl, rfl, rfl, rfl, rfl, rfl, rfl, rfl, rfl, rfl, rfl, hrec, rfl, rfl⟩

theorem State.runningPort_toNat (s : State) : s.runningPort.toNat = 1 ↔ s.running = true := by
  unfold State.runningPort
  cases s.running <;> simp

/-- Settles O58, a case for each state of the sequencers. -/
theorem levelPortsShowTheRegisters : Obligations.LevelPortsShowTheRegisters := by
  intro s
  refine ⟨s.runningPort_toNat, ?_, ?_, rfl, rfl, rfl⟩
  · unfold State.txStatePort
    cases s.txState <;> rfl
  · unfold State.rxStatePort
    cases s.rxState <;> rfl

end Sys2Proof.Machine
end

section
/-! The invariant at reset and through every step (10_state.md R17, R19, 40_checksum.md R83). Each of its parts is about
the registers of one agent, so a turn of the other agent keeps it; of its own agent's turns, each is looked at once. -/

namespace Sys2Proof.Machine

/-! ### Each part of the invariant reads one agent's registers -/

theorem State.SameDec.decShape {s t : State} (h : s.SameDec t) (hs : s.DecShape) : t.DecShape := by
  obtain ⟨hst, htype, -, -, hidx, hhdr, hcnt, hevi, -, hevents, -, hn, hout⟩ := h
  simpa only [State.DecShape, State.DumpOk, hst, htype, hidx, hhdr, hcnt, hevi, hevents, hn, hout] using hs

theorem State.SameDec.accOk {s t : State} (h : s.SameDec t) (hs : s.AccOk) : t.AccOk := by
  obtain ⟨hst, htype, hlen, hacc, hidx, hhdr, -, -, hrec, hevents, -, hn, -⟩ := h
  simpa only [State.AccOk, State.frameSoFar, hst, htype, hlen, hacc, hidx, hhdr, hrec, hevents, hn] using hs

theorem State.SameEnc.encOk {s t : State} (h : s.SameEnc t) (hs : s.EncOk) : t.EncOk := by
  obtain ⟨hst, hbuf, hn, hi⟩ := h
  simpa only [State.EncOk, hst, hbuf, hn, hi] using hs

/-- A turn of ENC: its own registers, and what a flag still set says of its sequencer, are left to look at. -/
theorem State.Inv.of_sameDec {s t : State} (hi : s.Inv) (hd : s.SameDec t) (hevt : t.evt = s.evt) (henc : t.EncOk)
    (hrun : t.running = true → s.running = true ∧ t.txState ≠ .closed ∧ t.txState ≠ .failed) : t.Inv := by
  obtain ⟨hshape, hacc, -, hrunning, hevts⟩ := hi
  refine ⟨hd.decShape hshape, hd.accOk hacc, henc, fun h => ?_, by simpa only [State.EvtOk, hevt] using hevts⟩
  obtain ⟨hs, hclosed, hfailed⟩ := hrun h
  obtain ⟨-, -, hrx⟩ := hrunning hs
  obtain ⟨hst, -⟩ := hd
  exact ⟨hclosed, hfailed, by rwa [hst]⟩

/-- DEC's sequencer is in no state that only a cleared session flag leads to. -/
def RxState.Live (x : RxState) : Prop := x ≠ .emitErr ∧ x ≠ .stopped ∧ x ≠ .failed

/-- A turn of DEC: its own registers, the records handed over, and what a flag still set says of its sequencer are left to
look at. -/
theorem State.Inv.of_sameEnc {s t : State} (hi : s.Inv) (he : s.SameEnc t) (hshape : t.DecShape) (hacc : t.AccOk)
    (hevt : t.EvtOk) (hrun : t.running = true → s.running = true ∧ t.rxState.Live) : t.Inv := by
  obtain ⟨-, -, henc, hrunning, -⟩ := hi
  refine ⟨hshape, hacc, he.encOk henc, fun h => ?_, hevt⟩
  obtain ⟨hs, hlive⟩ := hrun h
  obtain ⟨hclosed, hfailed, -⟩ := hrunning hs
  obtain ⟨hst, -⟩ := he
  exact ⟨by rwa [hst], by rwa [hst], hlive⟩

/-- A turn of neither agent. -/
theorem State.Inv.congr {s t : State} (hi : s.Inv) (hd : s.SameDec t) (he : s.SameEnc t) (hevt : t.evt = s.evt)
    (hrun : t.running = s.running) : t.Inv := by
  have ⟨_, _, henc, hrunning, _⟩ := hi
  refine hi.of_sameDec hd hevt (he.encOk henc) fun h => ?_
  have hs : s.running = true := by rwa [← hrun]
  obtain ⟨hclosed, hfailed, -⟩ := hrunning hs
  obtain ⟨hst, -⟩ := he
  exact ⟨hs, by rwa [hst], by rwa [hst]⟩

theorem State.Inv.dropTurn {s : State} (hi : s.Inv) : s.dropTurn.Inv :=
  hi.congr (dropTurn_sameDec s) (dropTurn_sameEnc s) (by simp) (by simp)

/-! ### Reset -/

/-- The registers after reset meet every part of the invariant that is not about the records already handed over. -/
theorem inv_resetBlock {s : State} (h : s.EvtOk) : (resetBlock s).Inv := by
  refine ⟨?_, ?_, ?_, ?_, h⟩
  · simp [State.DecShape, State.reset]
  · simp [State.AccOk, State.reset]
  · simp [State.EncOk, State.reset]
  · simp [State.RunningOk, State.reset]

/-- Settles O54: the state after reset is what RESET makes of it, with no record handed over. -/
theorem invariantHoldsAtReset : Obligations.InvariantHoldsAtReset := by
  have hevt : State.reset.EvtOk := by simp [State.EvtOk, State.reset]
  exact inv_resetBlock hevt

/-! ### ENC -/

/-- 41_encoder.md R94: the checksum over a frame with its trailer is zero. -/
@[simp] theorem compute_withTrailer (body : List Byte) : compute (withTrailer body) = 0x00#8 := by
  simp [withTrailer, compute_concat]

/-- What 10_state.md R17 and 41_encoder.md R94 ask of a frame that ENC loads. -/
def FrameFits (buf : List Byte) : Prop :=
  3 ≤ buf.length ∧ buf.length ≤ 19 + Config.maxTrackLen ∧ compute buf = 0x00#8

theorem encodeStatus_fits : FrameFits encodeStatus := by
  have hlen : encodeStatus.length = 3 := rfl
  exact ⟨by omega, by omega, compute_withTrailer _⟩

theorem encodeDump_fits (code : Byte) : FrameFits (encodeDump code) := by
  have hlen : (encodeDump code).length = 4 := rfl
  exact ⟨by omega, by omega, compute_withTrailer _⟩

theorem encodeInit_fits (m : InitLenMode) (f : InitFields) (h : f.track.length ≤ Config.maxTrackLen) :
    FrameFits (encodeInit m f) := by
  have hlen : (encodeInit m f).length = f.track.length + 19 := by
    simp [encodeInit, withTrailer, initBody, bytes16le]
  exact ⟨by omega, by omega, compute_withTrailer _⟩

/-- A request on CMD that changes anything was taken where ENC is ready: a frame that fits, or QUIT. -/
theorem exec_request_accepted {r : Request} {s t : State} (h : exec r.instr s = .next t) :
    t = s ∨ s.cmdReady = true ∧ ((∃ buf, FrameFits buf ∧ t = s.loadFrame buf) ∨ t = s.quit) := by
  have accepted {buf : List Byte} (hfits : FrameFits buf) (ht : acceptFrame buf s = t) :
      t = s ∨ s.cmdReady = true ∧ ((∃ buf', FrameFits buf' ∧ t = s.loadFrame buf') ∨ t = s.quit) := by
    rcases acceptFrame_cases buf s with ⟨hready, e⟩ | ⟨-, e⟩ <;> rw [e] at ht
    · exact .inr ⟨hready, .inl ⟨buf, hfits, ht.symm⟩⟩
    · exact .inl ht.symm
  cases r with
  | status =>
    cases h
    exact accepted encodeStatus_fits rfl
  | dump code =>
    cases h
    exact accepted (encodeDump_fits code) rfl
  | init f =>
    have h : execEncInit f s = .next t := h
    unfold execEncInit at h
    split at h
    · split at h
      · next hlen =>
        cases h
        exact accepted (encodeInit_fits s.initLenMode f hlen) rfl
      · cases h
    · cases h
      exact .inl rfl
  | quit =>
    cases h
    split
    · next hready => exact .inr ⟨hready, .inr rfl⟩
    · exact .inl rfl

theorem encOk_loadFrame {buf : List Byte} (s : State) (h : FrameFits buf) : (s.loadFrame buf).EncOk := by
  obtain ⟨hmin, hmax, hsum⟩ := h
  refine ⟨rfl, Nat.zero_le _, hmax, fun _ => ⟨hmin, hsum⟩, fun _ => ?_, by simp⟩
  simp only [State.loadFrame_txI, State.loadFrame_txN]
  omega

/-- Where ENC is idle, all bytes are sent, and closing it keeps them so. -/
theorem encOk_of_closed {s t : State} (h : s.EncOk) (hs : s.txState = .idle) (ht : t.txState = .closed)
    (hbuf : t.txBuf = s.txBuf) (hn : t.txN = s.txN) (hi : t.txI = s.txI) : t.EncOk := by
  obtain ⟨hlen, hle, hmax, hsum, -, hall⟩ := h
  simp only [State.EncOk, ht, hbuf, hn, hi]
  exact ⟨hlen, hle, hmax, hsum, nofun, fun _ => hall (.inl hs)⟩

/-- 41_encoder.md R92: the byte sent is the last one exactly where ENC goes back to TX_IDLE. -/
theorem encOk_sendByte {s : State} (b : Byte) (h : s.EncOk) (hs : s.txState = .send) : (s.sendByte b).EncOk := by
  obtain ⟨hlen, -, hmax, hsum, hlt, -⟩ := h
  have hlt : s.txI < s.txN := hlt hs
  by_cases hlast : s.txI + 1 = s.txN
  · simpa [State.EncOk, hlast, ← hlen, hmax] using hsum
  · simp only [State.EncOk, State.sendByte_txN, State.sendByte_txBuf, State.sendByte_txI, State.sendByte_txState, hlast,
      hs, if_false]
    exact ⟨hlen, by omega, hmax, hsum, fun _ => by omega, by simp⟩

/-- 60_exceptions.md R124: `tx_buf`, `tx_n` and `tx_i` keep their values. -/
theorem encOk_raise_tx {s : State} (n : Nat) (h : s.EncOk) : (raiseTransportError (.tx n) s).EncOk := by
  obtain ⟨hlen, hle, hmax, hsum, -, -⟩ := h
  exact ⟨hlen, hle, hmax, hsum, nofun, by simp⟩

theorem inv_request {r : Request} {s t : State} (hi : s.Inv) (h : exec r.instr s = .next t) : t.Inv := by
  have ⟨_, _, henc, _⟩ := hi
  rcases exec_request_accepted h with rfl | ⟨hready, ⟨buf, hfits, rfl⟩ | rfl⟩
  · exact hi
  · refine hi.of_sameDec (by simp [State.SameDec]) rfl (encOk_loadFrame s hfits) fun hr => ?_
    exact ⟨hr, by simp, by simp⟩
  · obtain ⟨hidle, -⟩ := (cmdReady_iff s).mp hready
    exact hi.of_sameDec (by simp [State.SameDec]) rfl (encOk_of_closed henc hidle rfl rfl rfl rfl) nofun

theorem inv_encCheckStep {s : State} (hi : s.Inv) : (encCheckStep s).Inv := by
  rcases encCheckStep_cases s with ⟨⟨hidle, hrun⟩, e⟩ | ⟨-, e⟩ <;> rw [e]
  · have ⟨_, _, henc, _⟩ := hi
    exact hi.of_sameDec (by simp [State.SameDec]) rfl (encOk_of_closed henc hidle rfl rfl rfl rfl) (by simp [hrun])
  · exact hi

theorem inv_txStep {s : State} (a : TxAnswer) (hi : s.Inv) : (txStep a s).Inv := by
  have ⟨_, _, henc, _⟩ := hi
  rcases txStep_cases a s with ⟨-, e⟩ | ⟨b, hb, ⟨-, e⟩ | ⟨-, e⟩⟩ <;> rw [e]
  · exact hi
  · obtain ⟨hsend, -, -⟩ := offered_eq_some.mp hb
    refine hi.of_sameDec (by simp [State.SameDec]) rfl (encOk_sendByte b henc hsend) fun hr => ⟨hr, ?_⟩
    by_cases hlast : s.txI + 1 = s.txN <;> simp [hlast, hsend]
  · exact hi.of_sameDec (by simp [State.SameDec]) rfl (encOk_raise_tx s.txI henc) nofun

/-! ### DEC's registers in each reading state -/

theorem decShape_of_hdr {s : State} (h : s.rxState = .hdr) : s.DecShape ↔ s.rxOut = none ∧ s.rxIdx ≤ 1 := by
  simp only [State.DecShape, h]

theorem decShape_of_pay {s : State} (h : s.rxState = .pay) :
    s.DecShape ↔ s.rxOut = none ∧ s.rxIdx ≤ 3 ∧ (s.rxType = 0x81#8 ∨ s.rxType = 0x82#8) := by
  simp only [State.DecShape, h]

theorem decShape_of_evt {s : State} (h : s.rxState = .evt) :
    s.DecShape ↔ s.rxOut = none ∧ s.rxIdx ≤ 15 ∧ s.rxType = 0x82#8 ∧ s.rxEvi < s.rxCnt.toNat ∧ s.DumpOk := by
  simp only [State.DecShape, h]

theorem decShape_of_trailer {s : State} (h : s.rxState = .trailer) :
    s.DecShape ↔ s.rxOut = none ∧ recognizedType s.rxType = true ∧
      (s.rxType = 0x82#8 → s.rxEvi = s.rxCnt.toNat ∧ s.DumpOk) := by
  simp only [State.DecShape, h]

theorem decShape_of_emit {s : State} (h : s.rxState = .emit) :
    s.DecShape ↔ s.rxNread ≤ 4087 ∧ ∃ r, s.rxOut = some r ∧ r.kind ≠ .transportError ∧ r.Consistent := by
  simp only [State.DecShape, h]

theorem decShape_of_emitErr {s : State} (h : s.rxState = .emitErr) :
    s.DecShape ↔ ∃ ph, s.rxOut = some (.transportError ph s.rxNread) ∧ s.rxNread ≤ 4086 := by
  simp only [State.DecShape, h]

/-- The bytes of a Dump frame up to its last complete event record. -/
def State.dumpBytes (s : State) : List Byte :=
  [s.rxType, s.rxLen] ++ s.rxHdr.toList ++ s.rxEvents.flatMap (fun e => e.raw.toList)

theorem State.dumpBytes_length (s : State) : s.dumpBytes.length = 6 + 16 * s.rxEvents.length := by
  have hrecords : (s.rxEvents.flatMap fun e => e.raw.toList).length = 16 * s.rxEvents.length := by
    simp [List.length_flatMap, Nat.mul_comm]
  simp only [State.dumpBytes, List.length_append, hrecords, Vector.length_toList, List.length_cons, List.length_nil]

theorem frameSoFar_of_hdr {s : State} (h : s.rxState = .hdr) :
    s.frameSoFar = if s.rxIdx = 0 then [] else [s.rxType] := by
  simp only [State.frameSoFar, h]

theorem frameSoFar_of_pay {s : State} (h : s.rxState = .pay) :
    s.frameSoFar = [s.rxType, s.rxLen] ++ s.rxHdr.toList.take s.rxIdx := by
  simp only [State.frameSoFar, h]

theorem frameSoFar_of_evt {s : State} (h : s.rxState = .evt) :
    s.frameSoFar = s.dumpBytes ++ s.rxRec.toList.take s.rxIdx := by
  simp only [State.frameSoFar, State.dumpBytes, h]

theorem frameSoFar_of_short_trailer {s : State} (h : s.rxState = .trailer) (ht : s.rxType = 0x80#8 ∨ s.rxType = 0x8F#8) :
    s.frameSoFar = [s.rxType, s.rxLen] := by
  simp only [State.frameSoFar, h, ht, if_true]

theorem frameSoFar_of_status_trailer {s : State} (h : s.rxState = .trailer) (ht : s.rxType = 0x81#8) :
    s.frameSoFar = [s.rxType, s.rxLen] ++ s.rxHdr.toList := by
  simp [State.frameSoFar, h, ht]

theorem frameSoFar_of_dump_trailer {s : State} (h : s.rxState = .trailer) (ht : s.rxType = 0x82#8) :
    s.frameSoFar = s.dumpBytes := by
  simp [State.frameSoFar, State.dumpBytes, h, ht]

theorem recognizedType_iff (t : Byte) :
    recognizedType t = true ↔ (t = 0x80#8 ∨ t = 0x8F#8) ∨ t = 0x81#8 ∨ t = 0x82#8 := by
  simp only [recognizedType, Bool.or_eq_true, beq_iff_eq]
  tauto

/-- DEC reads a frame: the states of `AccOk`'s premise. -/
def State.Reading (s : State) : Prop :=
  s.rxState = .hdr ∨ s.rxState = .pay ∨ s.rxState = .evt ∨ s.rxState = .trailer

/-- Outside the reading states the checksum of the frame so far is not claimed. -/
theorem accOk_of_not_reading {s : State} (h : ¬ s.Reading) : s.AccOk := fun hr => absurd hr h

/-- The longest frame before its trailer: a Dump of 255 event records (60_exceptions.md R123). -/
theorem rxNread_le_of_reading {s : State} (hshape : s.DecShape) (hacc : s.AccOk) (h : s.Reading) : s.rxNread ≤ 4086 := by
  obtain ⟨hn, -⟩ := hacc h
  rw [hn]
  rcases h with h | h | h | h
  · rw [frameSoFar_of_hdr h]
    split <;> simp
  · obtain ⟨-, hidx, -⟩ := (decShape_of_pay h).mp hshape
    simp only [frameSoFar_of_pay h, List.length_append, List.length_cons, List.length_nil, List.length_take,
      Vector.length_toList]
    omega
  · obtain ⟨-, hidx, -, hlt, -, hevents, -⟩ := (decShape_of_evt h).mp hshape
    simp only [frameSoFar_of_evt h, List.length_append, s.dumpBytes_length, List.length_take, Vector.length_toList]
    omega
  · obtain ⟨-, htype, hdump⟩ := (decShape_of_trailer h).mp hshape
    rcases (recognizedType_iff _).mp htype with ht | ht | ht
    · simp [frameSoFar_of_short_trailer h ht]
    · simp [frameSoFar_of_status_trailer h ht]
    · obtain ⟨hall, -, hevents, -⟩ := hdump ht
      simp only [frameSoFar_of_dump_trailer h ht, s.dumpBytes_length]
      omega

/-! ### A byte more -/

/-- The first bytes of a buffer after the next one is written. -/
theorem take_set_toList {n : Nat} (v : Vector Byte n) {i : Nat} (hi : i < n) (b : Byte) :
    (v.toList.set i b).take (i + 1) = v.toList.take i ++ [b] := by
  have hlt : i < (v.toList.set i b).length := by simpa using hi
  rw [List.take_succ_eq_append_getElem hlt]
  simp [List.take_set_of_le]

/-- The whole buffer after its last byte is written. -/
theorem set_toList_last {n : Nat} (v : Vector Byte (n + 1)) (b : Byte) :
    v.toList.set n b = v.toList.take n ++ [b] := by
  rw [← take_set_toList v (Nat.lt_succ_self n) b, List.take_of_length_le (by simp)]

/-- What a byte step other than a frame's first and last comes to: the byte is counted, folded into `rx_acc` and stands
last in the frame so far, if DEC goes on reading. -/
structure Appends (b : Byte) (s t : State) : Prop where
  shape : t.DecShape
  live : t.rxState.Live
  counted : t.rxNread = s.rxNread + 1
  folded : t.rxAcc = s.rxAcc ^^^ b
  bytes : t.Reading → t.frameSoFar = s.frameSoFar ++ [b]

/-- 40_checksum.md R83: the accumulator stays the checksum of the frame so far. -/
theorem Appends.accOk {b : Byte} {s t : State} (h : Appends b s t) (hacc : s.AccOk) (hr : s.Reading)
    (hne : s.frameSoFar ≠ []) : t.AccOk := by
  intro ht
  obtain ⟨hn, hsum⟩ := hacc hr
  rw [h.bytes ht, h.counted, h.folded, hn, hsum hne]
  exact ⟨by simp, fun _ => (compute_concat _ b).symm⟩

/-- 42_decoder.md R98: a short frame, a frame with a payload, or a type byte that DEC does not know. -/
theorem headerByte1_appends {s : State} (b : Byte) (hs : s.rxState = .hdr) (hidx : s.rxIdx ≠ 0) (hshape : s.DecShape)
    (hn : s.rxNread = 1) : Appends b s (s.headerByte1 b) := by
  obtain ⟨hout, -⟩ := (decShape_of_hdr hs).mp hshape
  have hframe : s.frameSoFar = [s.rxType] := by simp [frameSoFar_of_hdr hs, hidx]
  unfold State.headerByte1
  dsimp only
  split
  · next hshort =>
    have hdump : ¬ s.rxType = 0x82#8 := by rcases hshort with h | h <;> simp [h]
    exact {
      shape := Iff.mpr (decShape_of_trailer rfl)
        ⟨hout, (recognizedType_iff _).mpr (.inl hshort), fun h => absurd h hdump⟩
      live := by simp [RxState.Live]
      counted := by rw [hn]
      folded := rfl
      bytes := fun _ => hframe ▸ frameSoFar_of_short_trailer (by rfl) hshort }
  split
  · next hlong =>
    exact {
      shape := Iff.mpr (decShape_of_pay rfl) ⟨hout, Nat.zero_le _, hlong⟩
      live := by simp [RxState.Live]
      counted := by rw [hn]
      folded := rfl
      bytes := fun _ => hframe ▸ frameSoFar_of_pay (by rfl) }
  · next hshort hlong =>
    have hunrec : recognizedType s.rxType = false := by
      rw [Bool.eq_false_iff, ne_eq, recognizedType_iff]
      exact not_or.mpr ⟨hshort, hlong⟩
    exact {
      shape := Iff.mpr (decShape_of_emit rfl) ⟨by simp, _, rfl, by simp [Record.kind], hunrec, rfl⟩
      live := by simp [RxState.Live]
      counted := by simp [hn]
      folded := rfl
      bytes := fun h => by simp [State.Reading] at h }

/-- 42_decoder.md R99: a byte before the last one; then the end of a Status payload, or of a Dump's payload header with no
event records or some to come. -/
theorem payloadByte_appends {s : State} (b : Byte) (hs : s.rxState = .pay) (hshape : s.DecShape) :
    Appends b s (s.payloadByte b) := by
  obtain ⟨hout, hidx, htype⟩ := (decShape_of_pay hs).mp hshape
  have hframe := frameSoFar_of_pay hs
  have hnext := take_set_toList s.rxHdr (show s.rxIdx < 4 by omega) b
  unfold State.payloadByte
  dsimp only
  split
  · next hlt =>
    exact {
      shape := Iff.mpr (decShape_of_pay hs) ⟨hout, hlt, htype⟩
      live := by simp [RxState.Live, hs]
      counted := rfl
      folded := rfl
      bytes := fun _ => Eq.trans (frameSoFar_of_pay hs) (by simp [hframe, hnext]) }
  have hlast : s.rxIdx = 3 := by omega
  have hall := set_toList_last s.rxHdr b
  split
  · next hstatus =>
    have hdump : ¬ s.rxType = 0x82#8 := by simp [hstatus]
    exact {
      shape := Iff.mpr (decShape_of_trailer rfl) ⟨hout, by simp [recognizedType, hstatus], fun h => absurd h hdump⟩
      live := by simp [RxState.Live]
      counted := rfl
      folded := rfl
      bytes := fun _ => Eq.trans (frameSoFar_of_status_trailer rfl hstatus) (by simp [hframe, hlast, hall]) }
  have hdump : s.rxType = 0x82#8 := htype.resolve_left ‹_›
  split
  · next hzero =>
    exact {
      shape := Iff.mpr (decShape_of_trailer rfl)
        ⟨hout, by simp [recognizedType, hdump], fun _ => ⟨by simp [hzero], rfl, rfl, by simp⟩⟩
      live := by simp [RxState.Live]
      counted := rfl
      folded := rfl
      bytes := fun _ => Eq.trans (frameSoFar_of_dump_trailer rfl hdump)
        (by simp [State.dumpBytes, hframe, hlast, hall]) }
  · next hsome =>
    have hpos : 0 < ((s.rxHdr.setIfInBounds s.rxIdx b)[2]).toNat :=
      Nat.pos_of_ne_zero fun h => hsome (BitVec.eq_of_toNat_eq h)
    exact {
      shape := Iff.mpr (decShape_of_evt rfl) ⟨hout, Nat.zero_le _, hdump, hpos, rfl, rfl, by simp⟩
      live := by simp [RxState.Live]
      counted := rfl
      folded := rfl
      bytes := fun _ => Eq.trans (frameSoFar_of_evt rfl) (by simp [State.dumpBytes, hframe, hlast, hall]) }

/-- Records that are the decoded forms of their raw bytes, and one more that was just decoded. -/
theorem decoded_concat {es : List EventRecord} (h : ∀ e ∈ es, e = decodeEvent e.raw) (r : RawEvent) :
    ∀ e ∈ es ++ [decodeEvent r], e = decodeEvent e.raw := by
  intro e he
  rcases List.mem_append.mp he with he | he
  · exact h e he
  · rw [List.mem_singleton.mp he]
    rfl

@[simp] theorem decodeEvent_raw (r : RawEvent) : (decodeEvent r).raw = r := rfl

/-- 42_decoder.md R100, R101: a byte before the record's last one; then the end of the last record, or of one before it. -/
theorem recordByte_appends {s : State} (b : Byte) (hs : s.rxState = .evt) (hshape : s.DecShape) :
    Appends b s (s.recordByte b) := by
  obtain ⟨hout, hidx, hdump, hlt, hcnt, hevents, hraw⟩ := (decShape_of_evt hs).mp hshape
  have hframe := frameSoFar_of_evt hs
  have hnext := take_set_toList s.rxRec (show s.rxIdx < 16 by omega) b
  unfold State.recordByte
  dsimp only
  split
  · next hinner =>
    exact {
      shape := Iff.mpr (decShape_of_evt hs) ⟨hout, hinner, hdump, hlt, hcnt, hevents, hraw⟩
      live := by simp [RxState.Live, hs]
      counted := rfl
      folded := rfl
      bytes := fun _ => Eq.trans (frameSoFar_of_evt hs) (by simp [State.dumpBytes, hframe, hnext]) }
  have hlast : s.rxIdx = 15 := by omega
  have hall := set_toList_last s.rxRec b
  have hraw' := decoded_concat hraw (s.rxRec.setIfInBounds s.rxIdx b)
  split
  · next hdone =>
    exact {
      shape := Iff.mpr (decShape_of_trailer rfl)
        ⟨hout, by simp [recognizedType, hdump], fun _ => ⟨hdone, hcnt, by simp [hevents], hraw'⟩⟩
      live := by simp [RxState.Live]
      counted := rfl
      folded := rfl
      bytes := fun _ => Eq.trans (frameSoFar_of_dump_trailer rfl hdump)
        (by simp [State.dumpBytes, hframe, hlast, hall]) }
  · next hmore =>
    exact {
      shape := Iff.mpr (decShape_of_evt hs)
        ⟨hout, Nat.zero_le _, hdump, Nat.lt_of_le_of_ne hlt hmore, hcnt, by simp [hevents], hraw'⟩
      live := by simp [RxState.Live, hs]
      counted := rfl
      folded := rfl
      bytes := fun _ => Eq.trans (frameSoFar_of_evt hs) (by simp [State.dumpBytes, hframe, hlast, hall]) }

/-! ### The trailer -/

/-- 42_decoder.md R102: the record made from the registers at the trailer. -/
theorem trailerRecord_consistent {s : State} {b : Byte} {r : Record} (hs : s.rxState = .trailer) (hshape : s.DecShape)
    (hacc : s.AccOk) (h : s.trailerRecord b = some r) : r.kind ≠ .transportError ∧ r.Consistent := by
  obtain ⟨-, -, hdump⟩ := (decShape_of_trailer hs).mp hshape
  obtain ⟨-, hsum⟩ := hacc (.inr (.inr (.inr hs)))
  unfold State.trailerRecord at h
  split at h
  · next ht =>
    cases h
    rw [frameSoFar_of_short_trailer hs (.inl ht), ht] at hsum
    exact ⟨nofun, rfl, hsum (by simp), rfl⟩
  split at h
  · next ht =>
    cases h
    rw [frameSoFar_of_short_trailer hs (.inr ht), ht] at hsum
    exact ⟨nofun, rfl, hsum (by simp), rfl⟩
  split at h
  · next ht =>
    cases h
    rw [frameSoFar_of_status_trailer hs ht, ht] at hsum
    exact ⟨nofun, rfl, rfl, rfl, rfl, hsum (by simp), rfl⟩
  split at h
  · next ht =>
    cases h
    obtain ⟨hall, hcnt, hevents, hraw⟩ := hdump ht
    rw [frameSoFar_of_dump_trailer hs ht, State.dumpBytes, ht] at hsum
    exact ⟨nofun, rfl, rfl, hcnt, by rw [hevents, hall], hraw, hsum (by simp), rfl⟩
  · cases h

/-! ### DEC -/

/-- DEC's byte steps, from the first header byte to the trailer. -/
theorem takeByte_keeps {b : Byte} {s t : State} (hshape : s.DecShape) (hacc : s.AccOk) (hr : s.Reading)
    (h : takeByte b s = .next t) : t.DecShape ∧ t.AccOk ∧ t.rxState.Live := by
  have of_appends {u : State} (hu : Appends b s u) (hne : s.frameSoFar ≠ []) :
      u.DecShape ∧ u.AccOk ∧ u.rxState.Live := ⟨hu.shape, hu.accOk hacc hr hne, hu.live⟩
  have hle := rxNread_le_of_reading hshape hacc hr
  rcases hr with hs | hs | hs | hs <;> simp only [takeByte, hs] at h
  · cases h
    by_cases hidx : s.rxIdx = 0
    · obtain ⟨hout, -⟩ := (decShape_of_hdr hs).mp hshape
      rw [if_pos hidx]
      refine ⟨Iff.mpr (decShape_of_hdr hs) ⟨hout, Nat.le_refl _⟩, fun _ => ?_, by simp [RxState.Live, hs]⟩
      rw [show (s.headerByte0 b).frameSoFar = [b] from frameSoFar_of_hdr hs]
      exact ⟨rfl, fun _ => rfl⟩
    · rw [if_neg hidx]
      exact of_appends (headerByte1_appends b hs hidx hshape (hacc.headerCounted hs hidx))
        (by simp [frameSoFar_of_hdr hs, hidx])
  · cases h
    exact of_appends (payloadByte_appends b hs hshape) (by simp [frameSoFar_of_pay hs])
  · cases h
    exact of_appends (recordByte_appends b hs hshape) (by simp [frameSoFar_of_evt hs, State.dumpBytes])
  · rcases trailerByte_cases b s with ⟨r, hrec, e⟩ | ⟨-, e⟩ <;> rw [e] at h <;> cases h
    refine ⟨(decShape_of_emit rfl).mpr ⟨Nat.succ_le_succ hle, r, rfl, trailerRecord_consistent hs hshape hacc hrec⟩,
      accOk_of_not_reading (by simp [State.Reading]), by simp [RxState.Live]⟩

theorem reading_of_asking {s : State} (h : s.asking = true) : s.Reading := by
  unfold State.Reading
  unfold State.asking at h
  cases hs : s.rxState <;> simp_all

theorem inv_rxStep {a : RxAnswer} {s t : State} (hi : s.Inv) (h : rxStep a s = .next t) : t.Inv := by
  have ⟨hshape, hacc, _, _, hevts⟩ := hi
  obtain ⟨hst, hbuf, hn, hidx, -, hevt, -⟩ := rxStep_frame h
  have hevts' : t.EvtOk := by simpa only [State.EvtOk, hevt] using hevts
  have henc : s.SameEnc t := ⟨hst, hbuf, hn, hidx⟩
  rcases rxStep_cases a s with ⟨-, e⟩ | ⟨hask, b, -, e⟩ | ⟨hask, -, ph, -, e⟩ <;> rw [e] at h
  · cases h
    exact hi
  · obtain ⟨hshape', hacc', hlive⟩ := takeByte_keeps hshape hacc (reading_of_asking hask) h
    obtain ⟨-, hrun⟩ := takeByte_frame h
    exact hi.of_sameEnc henc hshape' hacc' hevts' fun hr => ⟨by rwa [← hrun], hlive⟩
  · cases h
    have hle := rxNread_le_of_reading hshape hacc (reading_of_asking hask)
    exact hi.of_sameEnc henc ((decShape_of_emitErr rfl).mpr ⟨ph, rfl, hle⟩)
      (accOk_of_not_reading (by simp [State.Reading])) hevts' nofun

theorem inv_boundaryStep {s : State} (hi : s.Inv) : (boundaryStep s).Inv := by
  have ⟨hshape, _, _, _, hevts⟩ := hi
  have hout (hs : s.rxState = .idle) : s.rxOut = none := by simpa only [State.DecShape, hs] using hshape
  rcases boundaryStep_cases s with ⟨hs, -, e⟩ | ⟨hs, hrun, e⟩ | ⟨-, e⟩ <;> rw [e]
  · refine hi.of_sameEnc (by simp [State.SameEnc]) ((decShape_of_hdr rfl).mpr ⟨hout hs, Nat.zero_le _⟩) (fun _ => ?_) hevts
      fun hr => ⟨hr, by simp [RxState.Live]⟩
    simp [frameSoFar_of_hdr s.enterHeader_rxState]
  · exact hi.of_sameEnc (by simp [State.SameEnc]) (hout hs) (accOk_of_not_reading (by simp [State.Reading])) hevts
      (by simp [hrun])
  · exact hi

/-- One record more handed over. -/
theorem evtOk_append {s t : State} {r : Record} (h : s.EvtOk) (hr : r.Consistent) (ht : t.evt = s.evt ++ [r]) :
    t.EvtOk := by
  intro r' hr'
  rw [ht] at hr'
  rcases List.mem_append.mp hr' with hr' | hr'
  · exact h r' hr'
  · rwa [List.mem_singleton.mp hr']

theorem inv_evtStep {s : State} (hi : s.Inv) : (evtStep s).Inv := by
  have ⟨hshape, _, _, hrunning, hevts⟩ := hi
  rcases evtStep_cases s with ⟨r, hs, hr, e⟩ | ⟨r, hs, hr, e⟩ | e <;> rw [e]
  · obtain ⟨-, r', hr', -, hcons⟩ := (decShape_of_emit hs).mp hshape
    obtain rfl : r' = r := by simpa [hr'] using hr
    exact hi.of_sameEnc (by simp [State.SameEnc]) rfl (accOk_of_not_reading (by simp [State.Reading]))
      (evtOk_append hevts hcons rfl) fun hrun => ⟨hrun, by simp [RxState.Live]⟩
  · obtain ⟨ph, hr', hle⟩ := (decShape_of_emitErr hs).mp hshape
    obtain rfl : .transportError ph s.rxNread = r := by simpa [hr'] using hr
    have hcons : (Record.transportError ph s.rxNread).Consistent := hle
    refine hi.of_sameEnc (by simp [State.SameEnc]) rfl (accOk_of_not_reading (by simp [State.Reading]))
      (evtOk_append hevts hcons rfl) fun hrun => ?_
    obtain ⟨-, -, hne, -⟩ := hrunning hrun
    exact absurd hs hne
  · exact hi

/-! ### Every turn, every step -/

theorem inv_runTurn {u : Turn} {s t : State} (hi : s.Inv) (h : runTurn u s = .next t) : t.Inv := by
  cases u with
  | boundary => cases h; exact inv_boundaryStep hi
  | encCheck => cases h; exact inv_encCheckStep hi
  | cmd r => exact inv_request hi h
  | tx a => cases h; exact inv_txStep a hi
  | rx a => exact inv_rxStep hi h
  | evt => cases h; exact inv_evtStep hi
  | chk bs =>
    obtain ⟨hd, he, -, hevt, hrun, -⟩ := runTurn_chk_frame h
    exact hi.congr hd he hevt hrun
  | reset =>
    cases h
    obtain ⟨-, -, -, -, hevts⟩ := hi
    exact inv_resetBlock hevts

/-- Settles O55: a step runs the next turn, and every turn keeps the invariant. -/
theorem everyStepKeepsTheInvariant : Obligations.EveryStepKeepsTheInvariant := by
  intro s t hi hstep
  rw [step_eq] at hstep
  exact inv_runTurn hi.dropTurn hstep

end Sys2Proof.Machine
end

section
/-! 20_memory.md R35, 60_exceptions.md R135: a turn of one agent leaves the other's registers, and the other's stream,
alone. -/

namespace Sys2Proof.Machine

/-! ### ENC's turns leave DEC's registers alone -/

theorem encCheckStep_sameDec (s : State) : s.SameDec (encCheckStep s) ∧ (encCheckStep s).evt = s.evt := by
  rcases encCheckStep_cases s with ⟨-, e⟩ | ⟨-, e⟩ <;> rw [e] <;> simp [State.SameDec]

theorem exec_request_sameDec {r : Request} {s t : State} (h : exec r.instr s = .next t) :
    s.SameDec t ∧ t.evt = s.evt := by
  rcases exec_request_cases h with rfl | ⟨buf, rfl⟩ | rfl <;> simp [State.SameDec]

theorem txStep_sameDec (a : TxAnswer) (s : State) : s.SameDec (txStep a s) ∧ (txStep a s).evt = s.evt := by
  rcases txStep_cases a s with ⟨-, e⟩ | ⟨b, -, ⟨-, e⟩ | ⟨-, e⟩⟩ <;> rw [e] <;> simp [State.SameDec]

/-! ### DEC's turns leave ENC's registers alone -/

theorem boundaryStep_sameEnc (s : State) : s.SameEnc (boundaryStep s) ∧ (boundaryStep s).tx = s.tx := by
  rcases boundaryStep_cases s with ⟨-, -, e⟩ | ⟨-, -, e⟩ | ⟨-, e⟩ <;> rw [e] <;> simp [State.SameEnc]

theorem evtStep_sameEnc (s : State) : s.SameEnc (evtStep s) ∧ (evtStep s).tx = s.tx := by
  rcases evtStep_cases s with ⟨r, -, -, e⟩ | ⟨r, -, -, e⟩ | e <;> rw [e] <;> simp [State.SameEnc]

theorem SameOutsideDec.sameEnc {s t : State} (h : SameOutsideDec s t) : s.SameEnc t ∧ t.tx = s.tx := by
  obtain ⟨hst, hbuf, hn, hi, htx, -⟩ := h
  exact ⟨⟨hst, hbuf, hn, hi⟩, htx⟩

/-- Settles O42: each turn of each agent. -/
theorem agentsTouchOnlyTheirOwn : Obligations.AgentsTouchOnlyTheirOwn := by
  refine ⟨fun u s t hu h => ?_, fun u s t hu h => ?_, fun bs s t h => ?_⟩
  · rcases hu with rfl | ⟨r, rfl⟩ | ⟨a, rfl⟩
    · cases h
      exact encCheckStep_sameDec s
    · exact exec_request_sameDec h
    · cases h
      exact txStep_sameDec a s
  · rcases hu with rfl | rfl | ⟨a, rfl⟩
    · cases h
      exact boundaryStep_sameEnc s
    · cases h
      exact evtStep_sameEnc s
    · exact (rxStep_frame h).sameEnc
  · rw [runTurns_rxLine] at h
    exact (feed_frame h).sameEnc

end Sys2Proof.Machine
end

section
/-! 20_memory.md R37, R39: where DEC does not ask, TRANSPORT's answers meet no transfer. -/

namespace Sys2Proof.Machine

theorem asking_of_not_reading {s : State} (h : ¬ s.Reading) : s.asking = false :=
  Bool.eq_false_iff.mpr fun hask => h (reading_of_asking hask)

/-- Settles O30: none of the five states is a reading state. -/
theorem nothingIsReadUnlessAsked : Obligations.NothingIsReadUnlessAsked := by
  intro a s hs
  have hask : s.asking = false := by
    refine asking_of_not_reading fun hr => ?_
    rcases hs with h | h | h | h | h <;> simp [State.Reading, h] at hr
  have hfeed (as : List RxAnswer) : feed as s = .next s := feed_not_asking as s hask
  exact ⟨by simp [runTurn, rxStep, hask], fun bs => by rw [runTurns_rxLine, hfeed]⟩

end Sys2Proof.Machine
end

section
/-! 20_memory.md R50, 43_session_control.md R115: a frame in TX_SEND goes out whole. While it is under way, only an answer
on TXD moves ENC; once it is out, only an answer on TXD can lengthen the TX stream. -/

namespace Sys2Proof.Machine

/-- The turn is neither RESET nor an answer to ENC's write. -/
def QuietTurn (u : Turn) : Prop := u ≠ .reset ∧ ∀ a, u ≠ .tx a

/-- A quiet turn puts nothing on the TX stream. While a frame is under way it leaves all of ENC alone: no request is taken
(41_encoder.md R85), and ENC does not close (43_session_control.md R115). -/
theorem runTurn_of_quiet {u : Turn} {s t : State} (hu : QuietTurn u) (h : runTurn u s = .next t) :
    t.tx = s.tx ∧ (s.txState = .send → s.SameEnc t) := by
  obtain ⟨hreset, htx⟩ := hu
  have of_sameEnc {t : State} (ht : s.SameEnc t ∧ t.tx = s.tx) : t.tx = s.tx ∧ (s.txState = .send → s.SameEnc t) :=
    ⟨ht.2, fun _ => ht.1⟩
  have hrefl : s.SameEnc s ∧ s.tx = s.tx := by simp [State.SameEnc]
  cases u with
  | boundary => cases h; exact of_sameEnc (boundaryStep_sameEnc s)
  | encCheck =>
    cases h
    rcases encCheckStep_cases s with ⟨⟨hidle, -⟩, e⟩ | ⟨-, e⟩ <;> rw [e]
    · exact ⟨rfl, fun hs => by simp [hs] at hidle⟩
    · exact of_sameEnc hrefl
  | cmd r =>
    rcases exec_request_accepted h with rfl | ⟨hready, hnew⟩
    · exact of_sameEnc hrefl
    · refine ⟨?_, fun hs => by simp [State.cmdReady, hs] at hready⟩
      rcases hnew with ⟨buf, -, rfl⟩ | rfl <;> rfl
  | tx a => exact absurd rfl (htx a)
  | rx a => exact of_sameEnc (rxStep_frame h).sameEnc
  | evt => cases h; exact of_sameEnc (evtStep_sameEnc s)
  | chk bs => cases h; exact of_sameEnc hrefl
  | reset => exact absurd rfl hreset

theorem runTurns_tx_of_quiet {us : List Turn} {s t : State} (hus : ∀ u ∈ us, QuietTurn u)
    (h : runTurns us s = .next t) : t.tx = s.tx := by
  induction us generalizing s with
  | nil => cases h; rfl
  | cons u us ih =>
    obtain ⟨hu, hus⟩ := List.forall_mem_cons.mp hus
    obtain ⟨s', h1, h2⟩ := andThen_eq_next h
    obtain ⟨htx, -⟩ := runTurn_of_quiet hu h1
    rw [ih hus h2, htx]

/-- 41_encoder.md R92: in TX_SEND an accepted byte is the next one of `tx_buf`. -/
theorem txStep_accept_of_send {s : State} (henc : s.EncOk) (hs : s.txState = .send) :
    ∃ b, s.txBuf.drop s.txI = b :: s.txBuf.drop (s.txI + 1) ∧ txStep .accept s = s.sendByte b := by
  obtain ⟨hlen, -, -, -, hlt, -⟩ := henc
  have hlt : s.txI < s.txN := hlt hs
  have hbuf : s.txI < s.txBuf.length := hlen ▸ hlt
  have hoff : s.offered = some s.txBuf[s.txI] :=
    offered_eq_some.mpr ⟨hs, hlt, List.getElem?_eq_getElem hbuf⟩
  exact ⟨_, List.drop_eq_getElem_cons hbuf, by simp [txStep, hoff]⟩

/-- Turns of a frame under way are quiet, or an accepted byte. -/
theorem quiet_of_ne_accept {u : Turn} (hu : u ≠ .reset ∧ u ≠ .tx .err) (hne : u ≠ .tx .accept) : QuietTurn u := by
  obtain ⟨hreset, herr⟩ := hu
  refine ⟨hreset, fun a => ?_⟩
  cases a with
  | accept => exact hne
  | err => exact herr

/-- Settles O13, by induction over the turns. An accepted byte takes one byte off the rest of the frame, and after the last
one the turns left are quiet; every other turn leaves ENC as it is. -/
theorem frameInSendGoesOutWhole : Obligations.FrameInSendGoesOutWhole := by
  intro us
  induction us with
  | nil =>
    intro s t _ hs _ _ h
    cases h
    simp [hs]
  | cons u us ih =>
    intro s t henc hs hall hcount h
    obtain ⟨hu, hus⟩ := List.forall_mem_cons.mp hall
    obtain ⟨s', h1, h2⟩ := andThen_eq_next h
    by_cases hacc : u = .tx .accept
    · subst hacc
      obtain ⟨b, hdrop, e⟩ := txStep_accept_of_send henc hs
      obtain rfl : s.sendByte b = s' := by
        rw [← e]
        exact Host.Outcome.next.inj h1
      rw [List.count_cons_self] at hcount ⊢
      rw [hdrop, List.take_succ_cons]
      by_cases hlast : s.txI + 1 = s.txN
      · have hnone : us.count (.tx .accept) = 0 := by omega
        have hquiet : ∀ v ∈ us, QuietTurn v := fun v hv =>
          quiet_of_ne_accept (hus v hv) fun hv' => List.count_eq_zero.mp hnone (hv' ▸ hv)
        rw [runTurns_tx_of_quiet hquiet h2, hnone]
        exact ⟨rfl, fun hlt => by omega⟩
      · have hs' : (s.sendByte b).txState = .send := by simp [hlast, hs]
        obtain ⟨htx, hstill⟩ := ih _ t (encOk_sendByte b henc hs) hs' hus (by simp; omega) h2
        refine ⟨by simp [htx], fun hlt => hstill ?_⟩
        simp only [State.sendByte_txN, State.sendByte_txI]
        omega
    · have hquiet := quiet_of_ne_accept hu hacc
      obtain ⟨htx, hsame⟩ := runTurn_of_quiet hquiet h1
      have henc' : s.SameEnc s' := hsame hs
      have ⟨hst, hbuf, hn, hi⟩ := henc'
      rw [List.count_cons_of_ne hacc] at hcount ⊢
      simpa only [hbuf, hn, hi, htx] using
        ih s' t (henc'.encOk henc) (hst.trans hs) hus (by rwa [hn, hi]) h2

end Sys2Proof.Machine
end

section
/-! 20_memory.md R51: ENC's write has no order with DEC's reads and hand-overs. An answer on TXD rewrites what stands outside
DEC's registers and clears `running` at most; DEC's byte steps read neither. -/

namespace Sys2Proof.Machine

/-! ### DEC's byte steps do not read `running` -/

/-- The session flag cleared if `c` holds: all that an agent does to the register the two share. -/
def State.stopIf (c : Bool) (s : State) : State := { s with running := !c && s.running }

theorem headerByte1_stopIf (b : Byte) (c : Bool) (s : State) :
    (s.stopIf c).headerByte1 b = (s.headerByte1 b).stopIf c := by
  unfold State.headerByte1 State.stopIf
  dsimp only
  split <;> [skip; split] <;> rfl

theorem payloadByte_stopIf (b : Byte) (c : Bool) (s : State) :
    (s.stopIf c).payloadByte b = (s.payloadByte b).stopIf c := by
  unfold State.payloadByte State.stopIf
  dsimp only
  split <;> [skip; split <;> [skip; split]] <;> rfl

theorem recordByte_stopIf (b : Byte) (c : Bool) (s : State) :
    (s.stopIf c).recordByte b = (s.recordByte b).stopIf c := by
  unfold State.recordByte State.stopIf
  dsimp only
  split <;> [skip; split] <;> rfl

theorem trailerByte_stopIf (b : Byte) (c : Bool) (s : State) :
    trailerByte b (s.stopIf c) = andThen (trailerByte b s) fun t => .next (t.stopIf c) := by
  have hr : (s.stopIf c).trailerRecord b = s.trailerRecord b := rfl
  unfold trailerByte
  rw [hr]
  split <;> rfl

theorem takeByte_stopIf (b : Byte) (c : Bool) (s : State) :
    takeByte b (s.stopIf c) = andThen (takeByte b s) fun t => .next (t.stopIf c) := by
  have hs : (s.stopIf c).rxState = s.rxState := rfl
  have hi : (s.stopIf c).rxIdx = s.rxIdx := rfl
  unfold takeByte
  rw [hs, hi]
  split
  · split
    · rfl
    · rw [headerByte1_stopIf, andThen_next]
  · rw [payloadByte_stopIf, andThen_next]
  · rw [recordByte_stopIf, andThen_next]
  · exact trailerByte_stopIf b c s
  all_goals rfl

theorem rxStep_stopIf (x : RxAnswer) (c : Bool) (s : State) :
    rxStep x (s.stopIf c) = andThen (rxStep x s) fun t => .next (t.stopIf c) := by
  have hask : (s.stopIf c).asking = s.asking := rfl
  have hs : (s.stopIf c).rxState = s.rxState := rfl
  unfold rxStep
  rw [hask, hs]
  split
  · cases x with
    | byte b => exact takeByte_stopIf b c s
    | err =>
      cases s.rxState.phase with
      | none => rfl
      | some ph => cases c <;> rfl
  · rfl

/-! ### An answer on TXD and an answer on RXD -/

/-- Steps in a row agree if the second ones agree where they run. -/
theorem andThen_congr {o : Host.Outcome State Fault Refusal} {f g : State → Host.Outcome State Fault Refusal}
    (h : ∀ t, o = .next t → f t = g t) : andThen o f = andThen o g := by
  cases o with
  | next t => exact h t rfl
  | fault r => rfl
  | refused r => rfl

theorem SameOutsideDec.setOutsideDec_eq {s t : State} (h : SameOutsideDec s t) : t.setOutsideDec s = t := by
  obtain ⟨hst, hbuf, hn, hi, htx, hevt, hchk, hmode, hsched, htick⟩ := h
  simp only [State.setOutsideDec, ← hst, ← hbuf, ← hn, ← hi, ← htx, ← hevt, ← hchk, ← hmode, ← hsched, ← htick]

/-- 41_encoder.md R92, 60_exceptions.md R124: what an answer on TXD does is settled by what stands outside DEC's
registers; of the rest it clears `running` at most. -/
theorem txStep_setOutsideDec (a : TxAnswer) (o s : State) :
    txStep a (s.setOutsideDec o) = (s.setOutsideDec (txStep a o)).stopIf (o.offered.isSome && a == .err) := by
  have hoff : (s.setOutsideDec o).offered = o.offered := rfl
  unfold txStep
  rw [hoff]
  cases o.offered with
  | none => rfl
  | some b => cases a <;> rfl

/-- The send step of a state that agrees with `s` outside DEC's registers, in terms of the one of `s`. -/
theorem txStep_of_sameOutsideDec (a : TxAnswer) {s t : State} (h : SameOutsideDec s t) :
    txStep a t = (t.setOutsideDec (txStep a s)).stopIf (s.offered.isSome && a == .err) := by
  rw [← txStep_setOutsideDec, h.setOutsideDec_eq]

theorem rxStep_txStep (a : TxAnswer) (x : RxAnswer) (s : State) :
    rxStep x (txStep a s) = andThen (rxStep x s) fun t => .next (txStep a t) := by
  rw [txStep_of_sameOutsideDec a (SameOutsideDec.refl s), rxStep_stopIf, rxStep_setOutsideDec, andThen_assoc]
  refine andThen_congr fun t ht => ?_
  rw [andThen_next, txStep_of_sameOutsideDec a (rxStep_frame ht)]

theorem feed_txStep (a : TxAnswer) (xs : List RxAnswer) (s : State) :
    feed xs (txStep a s) = andThen (feed xs s) fun t => .next (txStep a t) := by
  induction xs generalizing s with
  | nil => rfl
  | cons x xs ih =>
    simp only [feed_cons, rxStep_txStep, andThen_assoc, andThen_next]
    exact andThen_congr fun t _ => ih t

/-! ### An answer on TXD and DEC's other turns -/

/-- The send step commutes with an operation that commutes with both things it can do and leaves the offer alone. -/
theorem txStep_comm {f : State → State} {a : TxAnswer} {s : State} (hoff : (f s).offered = s.offered)
    (hsend : ∀ b, (f s).sendByte b = f (s.sendByte b))
    (herr : raiseTransportError (.tx (f s).txI) (f s) = f (raiseTransportError (.tx s.txI) s)) :
    txStep a (f s) = f (txStep a s) := by
  unfold txStep
  rw [hoff]
  cases s.offered with
  | none => rfl
  | some b =>
    cases a with
    | accept => exact hsend b
    | err => exact herr

/-- 20_memory.md R39: a hand-over reads and writes DEC's registers and EVT alone. -/
theorem evtStep_txStep (a : TxAnswer) (s : State) : evtStep (txStep a s) = txStep a (evtStep s) := by
  obtain ⟨⟨hst, -, -, -, -, -, -, -, -, -, -, -, hout⟩, -⟩ := txStep_sameDec a s
  unfold evtStep
  rw [hst, hout]
  split
  · exact (txStep_comm (f := State.handOver _) rfl (fun _ => rfl) rfl).symm
  · exact (txStep_comm (f := State.handOverError _) rfl (fun _ => rfl) rfl).symm
  · rfl

/-- 43_session_control.md R116: an accepted byte leaves `running`, which the boundary check reads, as it is. -/
theorem boundaryStep_txStep_accept (s : State) :
    boundaryStep (txStep .accept s) = txStep .accept (boundaryStep s) := by
  obtain ⟨⟨hst, -⟩, -⟩ := txStep_sameDec .accept s
  have hrun : (txStep .accept s).running = s.running := by
    rcases txStep_cases .accept s with ⟨-, e⟩ | ⟨b, -, ⟨-, e⟩ | ⟨h, -⟩⟩
    · rw [e]
    · rw [e, State.sendByte_running]
    · cases h
  unfold boundaryStep
  rw [hst, hrun]
  split
  · split
    · exact (txStep_comm (f := State.enterHeader) rfl (fun _ => rfl) rfl).symm
    · exact (txStep_comm (f := State.stopDec) rfl (fun _ => rfl) rfl).symm
  · rfl

/-- 20_memory.md R51 for one turn: where the next states commute, so do the turns. -/
theorem runTurns_tx_swap {a : TxAnswer} {u : Turn} {s : State}
    (h : runTurn u (txStep a s) = andThen (runTurn u s) fun t => .next (txStep a t)) :
    runTurns [.tx a, u] s = runTurns [u, .tx a] s := by
  have htx : runTurns [.tx a] = fun t => .next (txStep a t) := rfl
  have hone (t : State) : runTurns [u] t = runTurn u t := by
    rw [runTurns_cons]
    cases runTurn u t <;> rfl
  calc runTurns [.tx a, u] s = runTurns [u] (txStep a s) := rfl
    _ = andThen (runTurn u s) (runTurns [.tx a]) := by rw [hone, h, htx]
    _ = runTurns [u, .tx a] s := rfl

/-- Settles O43: the send step commutes with each of DEC's turns the statement names, and with a line of them. -/
theorem sendAndReadCommute : Obligations.SendAndReadCommute := by
  refine ⟨fun a u s hu => runTurns_tx_swap ?_, fun a bs s => ?_⟩
  · rcases hu with rfl | ⟨x, rfl⟩ | ⟨rfl, rfl⟩
    · exact congrArg _ (evtStep_txStep a s)
    · exact rxStep_txStep a x s
    · exact congrArg _ (boundaryStep_txStep_accept s)
  · calc runTurns (.tx a :: rxLine bs) s = feed (bs.map .byte) (txStep a s) := runTurns_rxLine bs (txStep a s)
      _ = andThen (feed (bs.map .byte) s) (runTurns [.tx a]) := feed_txStep a (bs.map .byte) s
      _ = runTurns (rxLine bs ++ [.tx a]) s := by rw [runTurns_append, runTurns_rxLine]

end Sys2Proof.Machine
end

section
/-! 30_encoding.md R60, R64 to R67: the decoder reads back what the encoder writes, and nothing else. Each part of a
frame has one lemma for each direction: what the decoder answers on its bytes, and what bytes an answer came from. -/

namespace Sys2Proof

open Sys2Proof.Machine

/-! ### Fields of more than one byte -/

/-- 30_encoding.md R64: a 16-bit value is put together again from its low and its high byte. -/
@[simp] theorem le16_loByte_hiByte (v : Half) : le16 (loByte v) (hiByte v) = v := by
  apply BitVec.eq_of_getLsbD_eq
  intro k hk
  by_cases h : k < 8
  · simp [le16, loByte, hiByte, h, hk]
  · have hlt : k - 8 < 8 := by omega
    have hadd : 8 + (k - 8) = k := by omega
    simp [le16, loByte, hiByte, h, hlt, hk, hadd]

/-- Four bytes are a vector of four entries. -/
theorem quad_eq (q : Quad) : q = #v[q[0], q[1], q[2], q[3]] := by
  ext i hi
  interval_cases i <;> rfl

theorem quad_toList (q : Quad) : q.toList = [q[0], q[1], q[2], q[3]] := by
  rw [quad_eq q]
  rfl

/-! ### Outbound frames -/

/-- 30_encoding.md R60: the Init frame, byte by byte up to the track. -/
theorem encodeInit_eq (m : InitLenMode) (f : InitFields) :
    encodeInit m f =
      0x01#8 :: initLen m f.track.length :: loByte f.pkgId :: hiByte f.pkgId :: loByte f.reserved ::
        hiByte f.reserved :: loByte f.year :: hiByte f.year :: f.month :: f.day :: f.weekday :: f.hour :: f.minute ::
        f.second :: f.carrierCode :: f.userCode :: f.trackMode :: f.trackLen ::
        (f.track ++ [compute (initBody m f)]) := by
  simp [encodeInit, withTrailer, initBody, bytes16le]

/-- 30_encoding.md R60, from offset 18 on: all bytes but the last one are the track. -/
theorem decodeInitTail_cons (p0 p1 r0 r1 y0 y1 mo da wd ho mi se cc uc tm tl ck : Byte) (track : List Byte)
    (h : track.length ≤ Config.maxTrackLen) :
    decodeInitTail (p0 :: p1 :: r0 :: r1 :: y0 :: y1 :: mo :: da :: wd :: ho :: mi :: se :: cc :: uc :: tm :: tl ::
        (track ++ [ck])) =
      .ok (.encInit {
        pkgId := le16 p0 p1, reserved := le16 r0 r1, year := le16 y0 y1, month := mo, day := da, weekday := wd,
        hour := ho, minute := mi, second := se, carrierCode := cc, userCode := uc, trackMode := tm, trackLen := tl,
        track := track }) := by
  have hne : track ++ [ck] ≠ [] := List.append_ne_nil_of_right_ne_nil track (List.cons_ne_nil ck [])
  obtain ⟨c, cs, hcs⟩ := List.exists_cons_of_ne_nil hne
  have hdrop : (c :: cs).dropLast = track := by rw [← hcs, List.dropLast_concat]
  rw [hcs, decodeInitTail, hdrop, if_pos h]

theorem decodeFrame_encodeInit (m : InitLenMode) (f : InitFields) (h : f.track.length ≤ Config.maxTrackLen) :
    decodeFrame (encodeInit m f) = .ok (.encInit f) := by
  rw [encodeInit_eq]
  simp only [decodeFrame, BitVec.reduceEq, if_false, if_true]
  rw [decodeInitTail_cons _ _ _ _ _ _ _ _ _ _ _ _ _ _ _ _ _ _ h]
  simp

/-- 30_encoding.md R58 to R60, R64: an outbound frame is decoded as the request it was made for. -/
theorem decodeFrame_encode {m : InitLenMode} {i : Instr} {bs : List Byte} (hw : i.wellFormed = true)
    (hr : i.request.isSome = true) (he : encode m i = some bs) : decodeFrame bs = .ok i := by
  cases i with
  | encStatus => cases he; rfl
  | encDump code => cases he; rfl
  | encInit f =>
    cases he
    exact decodeFrame_encodeInit m f (of_decide_eq_true hw)
  | hostQuit => cases he
  | chk s => cases he
  | decAck | decStatus | decDump | decNak | decUnrecognized => cases hr

/-! ### Inbound frames: from the instruction to the bytes and back -/

/-- 30_encoding.md R62: payload and trailer of a Status frame. -/
theorem decodeStatusTail_append (len : Byte) (q : Quad) (ck : Byte) (rest : List Byte) :
    decodeStatusTail len (q.toList ++ ck :: rest) = .ok (.decStatus len q ck, rest) := by
  conv_rhs => rw [quad_eq q]
  rw [quad_toList]
  rfl

/-- 30_encoding.md R63: payload header, as many event records as it counts, and trailer of a Dump frame. -/
theorem decodeDumpTail_append (len : Byte) (q : Quad) (recs : List RawEvent) (ck : Byte) (rest : List Byte)
    (hcount : recs.length = q[2].toNat) :
    decodeDumpTail len (q.toList ++ (recs.flatMap (fun r => r.toList) ++ ck :: rest)) =
      .ok (.decDump len q recs ck, rest) := by
  have hrecs := takeRecords_append recs (ck :: rest)
  rw [hcount] at hrecs
  conv_rhs => rw [quad_eq q]
  simp [quad_toList, decodeDumpTail, hrecs]

/-- 30_encoding.md R65: a type byte that is none of the recognized four is told apart from each of them. -/
theorem ne_of_not_recognized {t : Byte} (h : recognizedType t = false) :
    t ≠ 0x80#8 ∧ t ≠ 0x8F#8 ∧ t ≠ 0x81#8 ∧ t ≠ 0x82#8 := by
  simpa [recognizedType_iff, not_or, and_assoc] using (Bool.eq_false_iff.mp h)

/-- 30_encoding.md R61 to R67: an inbound frame is decoded as the instruction it was made for, whatever follows it. -/
theorem decodeInbound_encode {m : InitLenMode} {i : Instr} {bs : List Byte} (rest : List Byte)
    (hw : i.wellFormed = true) (hr : i.request = none) (he : encode m i = some bs) :
    decodeInbound (bs ++ rest) = .ok (i, rest) := by
  cases i with
  | decAck len ck => cases he; rfl
  | decNak len ck => cases he; rfl
  | decStatus len q ck =>
    cases he
    simpa [decodeInbound] using decodeStatusTail_append len q ck rest
  | decDump len q recs ck =>
    cases he
    have hcount : recs.length = q[2].toNat := by simpa [Instr.wellFormed] using hw
    simpa [decodeInbound] using decodeDumpTail_append len q recs ck rest hcount
  | decUnrecognized t len =>
    cases he
    have hrec : recognizedType t = false := by simpa [Instr.wellFormed] using hw
    obtain ⟨hack, hnak, hstatus, hdump⟩ := ne_of_not_recognized hrec
    simp [decodeInbound, hack, hnak, hstatus, hdump]
  | chk s => cases he
  | encStatus | encInit | encDump | hostQuit => cases hr

/-- Settles O48: one lemma for the frames of each direction. -/
theorem decodeEncodeAgree : Obligations.DecodeEncodeAgree :=
  ⟨fun _ _ _ => decodeFrame_encode, fun _ _ _ rest => decodeInbound_encode rest⟩

/-! ### Inbound bytes: from an answer to the bytes it came from -/

/-- The instruction is a well-formed inbound one, its frame stands first in the bytes, and `rest` comes after it. -/
def ReadsFrame (m : InitLenMode) (bs rest : List Byte) (i : Instr) : Prop :=
  i.wellFormed = true ∧ i.request = none ∧ ∃ fs, encode m i = some fs ∧ bs = fs ++ rest

theorem decodeTrailer_eq_ok {mk : Byte → Instr} {bs rest : List Byte} {i : Instr}
    (h : decodeTrailer mk bs = .ok (i, rest)) : ∃ ck, i = mk ck ∧ bs = ck :: rest := by
  cases bs with
  | nil => cases h
  | cons ck bs => cases h; exact ⟨ck, rfl, rfl⟩

theorem decodeStatusTail_eq_ok {len : Byte} {bs rest : List Byte} {i : Instr}
    (h : decodeStatusTail len bs = .ok (i, rest)) :
    ∃ q ck, i = .decStatus len q ck ∧ bs = q.toList ++ ck :: rest := by
  unfold decodeStatusTail at h
  split at h
  · cases h; exact ⟨_, _, rfl, rfl⟩
  · cases h

theorem decodeDumpTail_eq_ok {len : Byte} {bs rest : List Byte} {i : Instr}
    (h : decodeDumpTail len bs = .ok (i, rest)) :
    ∃ (q : Quad) (recs : List RawEvent) (ck : Byte), recs.length = q[2].toNat ∧ i = .decDump len q recs ck ∧
      bs = q.toList ++ (recs.flatMap (fun r => r.toList) ++ ck :: rest) := by
  unfold decodeDumpTail at h
  split at h
  · next q0 q1 q2 q3 tail =>
    split at h
    · next recs ck rest' hrecs =>
      cases h
      obtain ⟨hcount, rfl⟩ := takeRecords_eq_some hrecs
      exact ⟨#v[q0, q1, q2, q3], recs, ck, hcount, rfl, rfl⟩
    · cases h
  · cases h

/-- 30_encoding.md R65 to R67: what the decoder reads from inbound bytes is a frame that stood first in them. -/
theorem decodeInbound_readsFrame (m : InitLenMode) {bs rest : List Byte} {i : Instr}
    (h : decodeInbound bs = .ok (i, rest)) : ReadsFrame m bs rest i := by
  unfold decodeInbound at h
  split at h
  · cases h
  · cases h
  · next t len tail =>
    split at h
    · next ht =>
      obtain ⟨ck, rfl, rfl⟩ := decodeTrailer_eq_ok h
      exact ⟨rfl, rfl, _, rfl, by simp [ht]⟩
    split at h
    · next ht =>
      obtain ⟨ck, rfl, rfl⟩ := decodeTrailer_eq_ok h
      exact ⟨rfl, rfl, _, rfl, by simp [ht]⟩
    split at h
    · next ht =>
      obtain ⟨q, ck, rfl, rfl⟩ := decodeStatusTail_eq_ok h
      exact ⟨rfl, rfl, _, rfl, by simp [ht]⟩
    split at h
    · next ht =>
      obtain ⟨q, recs, ck, hcount, rfl, rfl⟩ := decodeDumpTail_eq_ok h
      exact ⟨by simpa [Instr.wellFormed] using hcount, rfl, _, rfl, by simp [ht]⟩
    · next hack hnak hstatus hdump =>
      cases h
      exact ⟨by simp [Instr.wellFormed, recognizedType, hack, hnak, hstatus, hdump], rfl, _, rfl, rfl⟩

theorem decodeTrailer_eq_error {mk : Byte → Instr} {bs : List Byte} {e : DecodeError}
    (h : decodeTrailer mk bs = .error e) : e = .truncated ∧ bs.length < 1 := by
  cases bs with
  | nil => cases h; exact ⟨rfl, Nat.one_pos⟩
  | cons ck bs => cases h

theorem decodeStatusTail_eq_error {len : Byte} {bs : List Byte} {e : DecodeError}
    (h : decodeStatusTail len bs = .error e) : e = .truncated ∧ bs.length < 5 := by
  match bs, h with
  | [], h | [_], h | [_, _], h | [_, _, _], h | [_, _, _, _], h => cases h; exact ⟨rfl, by simp⟩
  | _ :: _ :: _ :: _ :: _ :: _, h => cases h

/-- 30_encoding.md R72: at most 255 records of 16 bytes can be missing. -/
theorem decodeDumpTail_eq_error {len : Byte} {bs : List Byte} {e : DecodeError}
    (h : decodeDumpTail len bs = .error e) : e = .truncated ∧ bs.length < 4085 := by
  match bs, h with
  | [], h | [_], h | [_, _], h | [_, _, _], h => cases h; exact ⟨rfl, by simp⟩
  | _ :: _ :: q2 :: _ :: tail, h =>
    have hmax : q2.toNat < 256 := q2.isLt
    simp only [decodeDumpTail] at h
    split at h
    · cases h
    · next hno =>
      cases h
      refine ⟨rfl, ?_⟩
      have hlen : tail.length ≤ 16 * q2.toNat := by
        cases hrecs : takeRecords q2.toNat tail with
        | none => exact (takeRecords_eq_none.mp hrecs).le
        | some p =>
          obtain ⟨recs, rest⟩ := p
          obtain ⟨hcount, rfl⟩ := takeRecords_eq_some hrecs
          cases rest with
          | nil => simp [List.length_flatMap, hcount, Nat.mul_comm]
          | cons ck rest => exact absurd hrecs (hno recs ck rest)
      simp only [List.length_cons]
      omega

/-- 30_encoding.md R67, R72: the decoder gives up only for want of bytes, and 4087 of them are enough for any frame. -/
theorem decodeInbound_eq_error {bs : List Byte} {e : DecodeError} (h : decodeInbound bs = .error e) :
    (e = .noBytes ∨ e = .truncated) ∧ bs.length < 4087 := by
  unfold decodeInbound at h
  split at h
  · cases h; exact ⟨.inl rfl, by simp⟩
  · cases h; exact ⟨.inr rfl, by simp⟩
  · next t len tail =>
    have htail : e = .truncated ∧ tail.length < 4085 := by
      split at h
      · exact (decodeTrailer_eq_error h).imp_right (by omega)
      split at h
      · exact (decodeTrailer_eq_error h).imp_right (by omega)
      split at h
      · exact (decodeStatusTail_eq_error h).imp_right (by omega)
      split at h
      · exact decodeDumpTail_eq_error h
      · cases h
    obtain ⟨he, hlen⟩ := htail
    exact ⟨.inr he, by simp only [List.length_cons]; omega⟩

/-- Settles O49: what the decoder reads, and why it gives up. -/
theorem inboundBytesHaveOneMeaning : Obligations.InboundBytesHaveOneMeaning := by
  refine ⟨fun m bs rest i h => decodeInbound_readsFrame m h, fun bs e h => (decodeInbound_eq_error h).1,
    fun bs hlen => ?_⟩
  cases h : decodeInbound bs with
  | ok p => exact ⟨p.1, p.2, rfl⟩
  | error e =>
    have := (decodeInbound_eq_error h).2
    omega

/-- Settles O50: the Init frame, byte by byte. -/
theorem initFieldsReadBackAtOffsets : Obligations.InitFieldsReadBackAtOffsets := by
  intro m f
  refine ⟨_, ?_, congrArg some (encodeInit_eq m f), ?_, rfl, le16_loByte_hiByte _, le16_loByte_hiByte _,
    le16_loByte_hiByte _, rfl, rfl, rfl, rfl, rfl, rfl, rfl, rfl, rfl, rfl, ?_⟩
  · simp only [List.length_cons, List.length_append]
    omega
  · simp only [List.length_cons, List.length_append, List.length_nil]
    omega
  · simp only [List.drop_succ_cons, List.drop_zero, List.take_left]

/-- Settles O51: the seven byte sequences, each by evaluating the decoder. -/
theorem wordsFromTheSpecDecode : Obligations.WordsFromTheSpecDecode :=
  ⟨rfl, rfl, rfl, rfl, rfl, rfl, rfl⟩

end Sys2Proof
end

section
/-! 30_encoding.md R58 to R60, 41_encoder.md R88: a frame request that ENC takes loads its encoded frame. -/

namespace Sys2Proof.Machine

theorem acceptFrame_of_cmdReady {s : State} (h : s.cmdReady = true) (buf : List Byte) :
    acceptFrame buf s = s.loadFrame buf :=
  if_pos h

/-- 41_encoder.md R88: the acceptance step, for every frame request. -/
theorem exec_loadFrame {i : Instr} {bs : List Byte} {s : State} (hready : s.cmdReady = true)
    (hr : i.request.isSome = true) (hw : i.wellFormed = true) (he : encode s.initLenMode i = some bs) :
    exec i s = .next (s.loadFrame bs) := by
  rw [← acceptFrame_of_cmdReady hready]
  cases i with
  | encStatus => cases he; rfl
  | encDump code => cases he; rfl
  | encInit f =>
    cases he
    have hlen : f.track.length ≤ Config.maxTrackLen := of_decide_eq_true hw
    show execEncInit f s = _
    rw [execEncInit, if_pos hready, if_pos hlen]
  | hostQuit => cases he
  | chk bs => cases he
  | decAck | decStatus | decDump | decNak | decUnrecognized => cases hr

/-- Settles O5: the encoded Status frame is 00 00 00. -/
theorem statusRequestLoadsFrame : Obligations.StatusRequestLoadsFrame := by
  intro s hidle hrun
  exact exec_loadFrame ((cmdReady_iff s).mpr ⟨hidle, hrun⟩) rfl rfl rfl

/-- The trailer of an outbound Dump: the first two bytes come to 03. -/
theorem encodeDump_eq (code : Byte) : encodeDump code = [0x02#8, 0x01#8, code, 0x03#8 ^^^ code] := by
  simp [encodeDump, withTrailer, compute]

/-- Settles O6: the encoded Dump frame, its trailer worked out. -/
theorem dumpRequestLoadsFrame : Obligations.DumpRequestLoadsFrame := by
  intro code s hidle hrun
  exact exec_loadFrame ((cmdReady_iff s).mpr ⟨hidle, hrun⟩) rfl rfl (congrArg some (encodeDump_eq code))

/-- Settles O7: the encoded Init frame, its trailer folded from zero (40_checksum.md R79). -/
theorem initRequestLoadsFrame : Obligations.InitRequestLoadsFrame := by
  intro f s hidle hrun hlen
  have hload := exec_loadFrame (i := .encInit f) ((cmdReady_iff s).mpr ⟨hidle, hrun⟩) rfl (decide_eq_true hlen) rfl
  have hsize : (encodeInit s.initLenMode f).length = 19 + f.track.length :=
    Laws.WireSize.encInit f s.initLenMode _ (decide_eq_true hlen) rfl
  refine ⟨initLen s.initLenMode f.track.length, fun hmode => by rw [hmode]; rfl, fun hmode => ?_,
    initBody s.initLenMode f, ?_, ?_⟩
  · rw [hmode]
    exact BitVec.toNat_ofNat _ 8
  · simp [initBody, bytes16le, loByte, hiByte]
  · rw [hload, ← compute_eq_foldl, ← hsize]
    rfl

end Sys2Proof.Machine
end

section
/-! 30_encoding.md R68, R69: the value maps. -/

namespace Sys2Proof.Machine

/-- 30_encoding.md R68: the class of a status code, by the code's value. -/
theorem classOf_eq (b : Byte) :
    classOf b = if b.toNat = 0 then .uninitialized else if b.toNat = 1 then .tracking else .error := by
  simp only [classOf, ← BitVec.toNat_inj, BitVec.toNat_ofNat]

/-- 30_encoding.md R69: the kind of an event flag, by the flag's value. -/
theorem kindOf_eq (b : Byte) : kindOf b = if b.toNat = 0 then .drop else .flip := by
  simp only [kindOf, ← BitVec.toNat_inj, BitVec.toNat_ofNat]

/-- 42_decoder.md R102: in RX_TRAILER DEC asks for a byte and takes it as the trailer. -/
theorem rxStep_trailer {s : State} (hs : s.rxState = .trailer) (b : Byte) : rxStep (.byte b) s = trailerByte b s := by
  simp [rxStep, State.asking, takeByte, hs]

/-- Settles O24: the two maps by the byte's value, and the raw code in the record of a Status trailer. -/
theorem valueMapsOverEveryByte : Obligations.ValueMapsOverEveryByte := by
  refine ⟨fun b => ⟨fun h => ?_, fun h => ?_, fun h => ?_⟩, fun b => ⟨fun h => ?_, fun h => ?_⟩, fun b s hs ht => ?_,
    fun r => ⟨rfl, rfl⟩⟩
  · rw [classOf_eq, if_pos h]
  · rw [classOf_eq, if_neg (by omega), if_pos h]
  · rw [classOf_eq, if_neg (by omega), if_neg (by omega)]
  · rw [kindOf_eq, if_pos h]
  · rw [kindOf_eq, if_neg (by omega)]
  · have hstep : runTurn (.rx (.byte b)) s = trailerByte b s := rxStep_trailer hs b
    have hrec : s.trailerRecord b =
        some (.status 0x81#8 s.rxLen s.rxHdr (pkgIdOf s.rxHdr) s.rxHdr[2] (classOf s.rxHdr[2]) b s.rxAcc
          (checkTrailer b s.rxAcc)) := by
      simp [State.trailerRecord, ht]
    rw [hstep, trailerByte, hrec]
    exact ⟨_, _, _, _, _, rfl, rfl⟩

end Sys2Proof.Machine
end

section
/-! 42_decoder.md R97 to R108: fed to DEC byte by byte, an inbound frame does what its instruction does. The bytes of a
frame come in groups (header, payload, event records, trailer), with one lemma for each group. -/

namespace Sys2Proof.Machine

/-! ### The header -/

/-- 42_decoder.md R97, R98: the two header bytes. -/
theorem feed_header {s : State} (h : s.atFrameStart = true) (t len : Byte) :
    feed [.byte t, .byte len] s = .next ((s.headerByte0 t).headerByte1 len) := by
  obtain ⟨hs, hi⟩ := (atFrameStart_iff s).mp h
  simp [rxStep, State.asking, takeByte, hs, hi]

/-- 42_decoder.md R98: after the header of an Ack or a Nak comes its trailer. -/
theorem header_short {t : Byte} (ht : t = 0x80#8 ∨ t = 0x8F#8) (len : Byte) (s : State) :
    (s.headerByte0 t).headerByte1 len = { s.readHeader t len with rxState := .trailer } :=
  if_pos ht

/-- 42_decoder.md R98: after the header of a Status or a Dump comes its payload. -/
theorem header_payload {t : Byte} (ht : t = 0x81#8 ∨ t = 0x82#8) (len : Byte) (s : State) :
    (s.headerByte0 t).headerByte1 len = { s.readHeader t len with rxState := .pay, rxIdx := 0 } := by
  have hshort : ¬ (t = 0x80#8 ∨ t = 0x8F#8) := by rcases ht with rfl | rfl <;> decide
  exact (if_neg hshort).trans (if_pos ht)

/-- 42_decoder.md R98, R108: the header is all of a frame whose type DEC does not know. -/
theorem header_unrecognized {t : Byte} (ht : recognizedType t = false) (len : Byte) (s : State) :
    (s.headerByte0 t).headerByte1 len = (s.readHeader t len).waitRecord (.unrecognized t len .notChecked) := by
  obtain ⟨hack, hnak, hstatus, hdump⟩ := ne_of_not_recognized ht
  exact (if_neg (not_or.mpr ⟨hack, hnak⟩)).trans (if_neg (not_or.mpr ⟨hstatus, hdump⟩))

/-! ### The trailer -/

/-- 42_decoder.md R102: the last byte of a frame, where DEC waits for a trailer and its registers make the record `r`. -/
theorem feed_trailer {s : State} {ck : Byte} {r : Record} (hs : s.rxState = .trailer)
    (hr : s.trailerRecord ck = some r) : feed [.byte ck] s = .next (s.readTrailer ck r) := by
  rw [feed_cons, rxStep_trailer hs, trailerByte, hr]
  rfl

/-! ### Whole frames -/

theorem feed_ack {s : State} (h : s.atFrameStart = true) (len ck : Byte) :
    feed [.byte 0x80#8, .byte len, .byte ck] s = execDecAck len ck s := by
  rw [execDecAck, if_pos h]
  calc feed ([.byte 0x80#8, .byte len] ++ [.byte ck]) s
    _ = feed [.byte ck] { s.readHeader 0x80#8 len with rxState := .trailer } := by
      rw [feed_append, feed_header h, header_short (.inl rfl), andThen_next]
    _ = _ := feed_trailer rfl rfl

theorem feed_nak {s : State} (h : s.atFrameStart = true) (len ck : Byte) :
    feed [.byte 0x8F#8, .byte len, .byte ck] s = execDecNak len ck s := by
  rw [execDecNak, if_pos h]
  calc feed ([.byte 0x8F#8, .byte len] ++ [.byte ck]) s
    _ = feed [.byte ck] { s.readHeader 0x8F#8 len with rxState := .trailer } := by
      rw [feed_append, feed_header h, header_short (.inr rfl), andThen_next]
    _ = _ := feed_trailer rfl rfl

theorem feed_unrecognized {s : State} (h : s.atFrameStart = true) {t : Byte} (ht : recognizedType t = false)
    (len : Byte) : feed [.byte t, .byte len] s = execDecUnrecognized t len s := by
  rw [feed_header h, header_unrecognized ht, execDecUnrecognized, if_neg (Bool.eq_false_iff.mp ht), if_pos h]

/-- 42_decoder.md R98, R99: header and payload of a Status or a Dump, up to the branch on the type byte. -/
theorem feed_header_payload {s : State} (h : s.atFrameStart = true) {t : Byte} (ht : t = 0x81#8 ∨ t = 0x82#8)
    (len : Byte) (q : Quad) :
    feed (.byte t :: .byte len :: q.toList.map .byte) s =
      .next (
        let s1 := (s.readHeader t len).readPayload q
        if t = 0x81#8 then { s1 with rxState := .trailer }
        else if q[2] = 0x00#8 then { s1 with rxCnt := q[2], rxEvi := 0, rxEvents := [], rxState := .trailer }
        else { s1 with rxCnt := q[2], rxEvi := 0, rxEvents := [], rxState := .evt, rxIdx := 0 }) := by
  calc feed ([.byte t, .byte len] ++ q.toList.map .byte) s
    _ = feed (q.toList.map .byte) { s.readHeader t len with rxState := .pay, rxIdx := 0 } := by
      rw [feed_append, feed_header h, header_payload ht, andThen_next]
    _ = _ := feed_payload q _ rfl rfl

/-- 40_checksum.md R83: the accumulator after header and payload. -/
theorem readPayload_rxAcc_eq (t len : Byte) (q : Quad) (s : State) :
    ((s.readHeader t len).readPayload q).rxAcc = compute (t :: len :: q.toList) := by
  have := xor_compute_append 0x00#8 [t, len] q.toList
  simpa using this.symm

theorem feed_status {s : State} (h : s.atFrameStart = true) (len : Byte) (q : Quad) (ck : Byte) :
    feed (.byte 0x81#8 :: .byte len :: (q.toList.map .byte ++ [.byte ck])) s = execDecStatus len q ck s := by
  rw [execDecStatus, if_pos h]
  calc feed ((.byte 0x81#8 :: .byte len :: q.toList.map .byte) ++ [.byte ck]) s
    _ = feed [.byte ck] { (s.readHeader 0x81#8 len).readPayload q with rxState := .trailer } := by
      rw [feed_append, feed_header_payload h (.inl rfl), andThen_next]
      rfl
    _ = _ := by
      rw [← readPayload_rxAcc_eq 0x81#8 len q s]
      exact feed_trailer rfl rfl

/-- 42_decoder.md R99, R100: a Dump before its trailer: header, payload and all the records its count announces. -/
theorem feed_dump_body {s : State} (h : s.atFrameStart = true) (len : Byte) (q : Quad) (recs : List RawEvent)
    (hcount : recs.length = q[2].toNat) :
    feed ((.byte 0x82#8 :: .byte len :: q.toList.map .byte) ++ (recs.flatMap fun r => r.toList).map .byte) s =
      .next { ((s.readHeader 0x82#8 len).readPayload q).readRecords recs with rxState := .trailer } := by
  rw [feed_append, feed_header_payload h (.inr rfl), andThen_next]
  dsimp only
  rw [if_neg (by decide)]
  cases recs with
  | nil =>
    have hzero : q[2] = 0x00#8 := BitVec.eq_of_toNat_eq hcount.symm
    rw [if_pos hzero]
    simp [State.readRecords]
  | cons r rs =>
    have hne : q[2] ≠ 0x00#8 := fun hzero => by simp [hzero] at hcount
    rw [if_neg hne, feed_records (r :: rs) _ rfl rfl (List.cons_ne_nil r rs) (by simpa using hcount)]
    simp [State.readRecords]

/-- 40_checksum.md R83: the accumulator after the event records. -/
theorem readRecords_rxAcc_eq (t len : Byte) (q : Quad) (recs : List RawEvent) (s : State) :
    (((s.readHeader t len).readPayload q).readRecords recs).rxAcc =
      compute (t :: len :: q.toList ++ recs.flatMap fun r => r.toList) := by
  have := xor_compute_append 0x00#8 (t :: len :: q.toList) (recs.flatMap fun r => r.toList)
  rw [← readPayload_rxAcc_eq t len q s] at this
  simpa [State.readRecords] using this.symm

theorem feed_dump {s : State} (h : s.atFrameStart = true) (len : Byte) (q : Quad) (recs : List RawEvent) (ck : Byte)
    (hcount : recs.length = q[2].toNat) :
    feed ((.byte 0x82#8 :: .byte len :: q.toList.map .byte) ++ (recs.flatMap fun r => r.toList).map .byte ++
        [.byte ck]) s = execDecDump len q recs ck s := by
  rw [execDecDump, if_pos hcount, if_pos h, feed_append, feed_dump_body h len q recs hcount, andThen_next,
    ← readRecords_rxAcc_eq 0x82#8 len q recs s]
  exact feed_trailer rfl rfl

/-- 42_decoder.md R97 to R108: where DEC asks for a first header byte, the bytes of an inbound frame do what its
instruction does. -/
theorem feed_encode {m : InitLenMode} {i : Instr} {bs : List Byte} {s : State} (hw : i.wellFormed = true)
    (hr : i.request = none) (he : encode m i = some bs) (h : s.atFrameStart = true) :
    feed (bs.map .byte) s = exec i s := by
  cases i with
  | decAck len ck => cases he; exact feed_ack h len ck
  | decNak len ck => cases he; exact feed_nak h len ck
  | decStatus len q ck =>
    cases he
    simpa [exec] using feed_status h len q ck
  | decDump len q recs ck =>
    cases he
    have hcount : recs.length = q[2].toNat := by simpa [Instr.wellFormed] using hw
    simpa [exec] using feed_dump h len q recs ck hcount
  | decUnrecognized t len =>
    cases he
    have ht : recognizedType t = false := by simpa [Instr.wellFormed] using hw
    exact feed_unrecognized h ht len
  | chk bs => cases he
  | encStatus | encInit | encDump | hostQuit => cases hr

/-- 42_decoder.md R104 to R108: a whole frame ends with a record waiting on EVT. -/
theorem exec_inbound_emits {m : InitLenMode} {i : Instr} {bs : List Byte} {s : State} (hw : i.wellFormed = true)
    (hr : i.request = none) (he : encode m i = some bs) (h : s.atFrameStart = true) :
    ∃ t, exec i s = .next t ∧ t.rxState = .emit ∧ t.rxOut.isSome := by
  cases i with
  | decAck len ck => exact ⟨_, if_pos h, rfl, rfl⟩
  | decNak len ck => exact ⟨_, if_pos h, rfl, rfl⟩
  | decStatus len q ck => exact ⟨_, if_pos h, rfl, rfl⟩
  | decDump len q recs ck =>
    have hcount : recs.length = q[2].toNat := by simpa [Instr.wellFormed] using hw
    exact ⟨_, (if_pos hcount).trans (if_pos h), rfl, rfl⟩
  | decUnrecognized t len =>
    have ht : ¬ recognizedType t = true := by simpa [Instr.wellFormed] using hw
    exact ⟨_, (if_neg ht).trans (if_pos h), rfl, rfl⟩
  | chk bs => cases he
  | encStatus | encInit | encDump | hostQuit => cases hr

end Sys2Proof.Machine
end

section
/-! 30_encoding.md R65, R77, 00_scope.md R9: what a step and a line of steps come to, for a request on CMD, for the bytes
of a frame on RXD, and for a table word (log entry 11). -/

namespace Sys2Proof.Machine

/-! ### A line of bytes on RXD -/

/-- An answer on RXD does the same whatever the schedule holds. -/
theorem rxStep_setSched (a : RxAnswer) (ts : List Turn) (s : State) :
    rxStep a { s with sched := ts } = andThen (rxStep a s) fun t => .next { t with sched := ts } := by
  have hset {t : State} (ht : SameOutsideDec s t) : t.setOutsideDec { s with sched := ts } = { t with sched := ts } := by
    obtain ⟨hst, hbuf, hn, hi, htx, hevt, hchk, hmode, -, htick⟩ := ht
    simp only [State.setOutsideDec, hst, hbuf, hn, hi, htx, hevt, hchk, hmode, htick]
  calc rxStep a { s with sched := ts }
    _ = andThen (rxStep a s) fun t => .next (t.setOutsideDec { s with sched := ts }) :=
      rxStep_setOutsideDec a { s with sched := ts } s
    _ = andThen (rxStep a s) fun t => .next { t with sched := ts } :=
      andThen_congr fun t ht => congrArg _ (hset (rxStep_frame ht))

theorem feed_cons_setSched (a : RxAnswer) (as : List RxAnswer) (ts : List Turn) (s : State) :
    feed (a :: as) { s with sched := ts } = andThen (rxStep a s) fun t => feed as { t with sched := ts } := by
  rw [feed_cons, rxStep_setSched, andThen_assoc]
  rfl

theorem step_rx {s : State} {a : RxAnswer} {ts : List Turn} (h : s.sched = .rx a :: ts) :
    step s = rxStep a { s with sched := ts } := by
  obtain ⟨hnext, hdrop⟩ := nextTurn_cons h
  rw [step_eq, hnext, hdrop]
  rfl

/-- A run is its first step and the run of the rest. -/
theorem core_run_succ (k : Nat) (s : State) :
    Sys2Proof.core.run (k + 1) s = andThen (step s) (Sys2Proof.core.run k) := by
  have hstep : Sys2Proof.core.step s = step s := rfl
  simp only [Host.Core.run, hstep]
  cases step s <;> rfl

/-- 30_encoding.md R77: as many steps as a line of RXD has bytes feed DEC those bytes and take their turns off the
schedule. -/
theorem core_run_rxLine (bs : List Byte) (rest : List Turn) (s : State) (h : s.sched = rxLine bs ++ rest) :
    Sys2Proof.core.run bs.length s = feed (bs.map .byte) { s with sched := rest } := by
  induction bs generalizing s with
  | nil =>
    cases s
    subst h
    rfl
  | cons b bs ih =>
    have htail (t : State) (ht : rxStep (.byte b) { s with sched := rxLine bs ++ rest } = .next t) :
        Sys2Proof.core.run bs.length t = feed (bs.map .byte) { t with sched := rest } := by
      obtain ⟨-, -, -, -, -, -, -, -, hsched, -⟩ := rxStep_frame ht
      exact ih t hsched
    rw [List.length_cons, core_run_succ, step_rx h]
    exact (andThen_congr htail).trans (feed_cons_setSched _ _ rest { s with sched := rxLine bs ++ rest }).symm

/-- Settles O52: a request is one turn; a frame's bytes do what its instruction does. -/
theorem stepRunsTheDecodedInstruction : Obligations.StepRunsTheDecodedInstruction := by
  refine ⟨fun s r rest h => ?_, fun s bs rest i h hs hi hdec => ?_⟩
  · obtain ⟨hnext, hdrop⟩ := nextTurn_cons h
    rw [step_eq, hnext, hdrop]
    rfl
  · obtain ⟨hw, hr, fs, he, hbs⟩ := decodeInbound_readsFrame s.initLenMode hdec
    rw [List.append_nil] at hbs
    subst hbs
    rw [core_run_rxLine bs rest s h]
    exact feed_encode hw hr he ((atFrameStart_iff _).mpr ⟨hs, hi⟩)

/-! ### Table words -/

theorem decodeInitTail_eq_ok {bs : List Byte} {i : Instr} (h : decodeInitTail bs = .ok i) : ∃ f, i = .encInit f := by
  unfold decodeInitTail at h
  split at h
  · dsimp only at h
    split at h
    · cases h; exact ⟨_, rfl⟩
    · cases h
  · cases h

/-- 30_encoding.md R57, R65: a frame that the decoder reads is one of the three outbound ones, or a whole inbound one. -/
theorem decodeFrame_eq_ok {bs : List Byte} {i : Instr} (h : decodeFrame bs = .ok i) :
    i = .encStatus ∨ (∃ code, i = .encDump code) ∨ (∃ f, i = .encInit f) ∨ decodeInbound bs = .ok (i, []) := by
  unfold decodeFrame at h
  split at h
  · cases h
  split at h
  · split at h <;> cases h
    exact .inl rfl
  split at h
  · split at h <;> cases h
    exact .inr (.inl ⟨_, rfl⟩)
  split at h
  · split at h
    · exact .inr (.inr (.inl (decodeInitTail_eq_ok h)))
    · cases h
  · exact .inr (.inr (.inr (exactly_eq_ok.mp h)))

/-- A frame read as an instruction that is no request is a whole inbound frame. -/
theorem decodeInbound_of_decodeFrame {bs : List Byte} {i : Instr} (h : decodeFrame bs = .ok i)
    (hr : i.request = none) : decodeInbound bs = .ok (i, []) := by
  rcases decodeFrame_eq_ok h with rfl | ⟨code, rfl⟩ | ⟨f, rfl⟩ | hin
  · cases hr
  · cases hr
  · cases hr
  · exact hin

/-- A frame read as a request has an encoding: no bytes stand for HOST.QUIT. -/
theorem encode_of_decodeFrame {bs : List Byte} {i : Instr} (m : InitLenMode) (h : decodeFrame bs = .ok i) :
    ∃ fs, encode m i = some fs := by
  rcases decodeFrame_eq_ok h with rfl | ⟨code, rfl⟩ | ⟨f, rfl⟩ | hin
  · exact ⟨_, rfl⟩
  · exact ⟨_, rfl⟩
  · exact ⟨_, rfl⟩
  · obtain ⟨-, -, fs, he, -⟩ := decodeInbound_readsFrame m hin
    exact ⟨fs, he⟩

theorem decodeTableWord_eq_some {nbits w : Nat} {i : Instr} (h : decodeTableWord nbits w = some i) :
    decodeFrame (layoutWord nbits w) = .ok i := by
  unfold decodeTableWord at h
  split at h
  · next hdec =>
    cases h
    exact hdec
  · cases h

theorem instr_of_request {i : Instr} {r : Request} (h : i.request = some r) : r.instr = i := by
  cases i <;> cases h <;> rfl

/-- Log entry 11: a table word's request is offered on CMD with ENC ready. -/
theorem step_withFetchWord_request {s : State} {nbits w : Nat} {i : Instr} {r : Request}
    (h : decodeFrame (layoutWord nbits w) = .ok i) (hr : i.request = some r) :
    step (s.withFetchWord nbits w) = exec i { s with running := true, txState := .idle } := by
  have hplace : s.withFetchWord nbits w = { s with running := true, txState := .idle, sched := .cmd r :: s.sched } := by
    simp only [State.withFetchWord, placeWord, h, hr]
  rw [hplace, ← instr_of_request hr]
  rfl

/-- Log entry 11: where DEC can take the whole frame, its last byte is still to come, and the step takes it. -/
theorem step_placeFrame {bs : List Byte} {s u : State} (hne : bs ≠ [])
    (h : feed (bs.map .byte) s.enterHeader = .next u) : step (placeFrame bs s) = .next u := by
  have hsplit : bs.map RxAnswer.byte = bs.dropLast.map .byte ++ [.byte (bs.getLast hne)] := by
    rw [← List.map_singleton, ← List.map_append, List.dropLast_append_getLast hne]
  have hlast : rxLine (bs.drop (bs.length - 1)) = [.rx (.byte (bs.getLast hne))] := by
    rw [List.drop_length_sub_one hne]
    rfl
  rw [hsplit, feed_append] at h
  obtain ⟨t, hpart, hrest⟩ := andThen_eq_next h
  obtain ⟨u', hstep, hu⟩ := andThen_eq_next hrest
  cases hu
  rw [placeFrame_eq hpart, hlast]
  exact hstep

/-- Log entry 11: a table word's inbound frame runs as from its first header byte. -/
theorem step_withFetchWord_frame {s : State} {nbits w : Nat} {i : Instr}
    (h : decodeFrame (layoutWord nbits w) = .ok i) (hr : i.request = none) :
    step (s.withFetchWord nbits w) = exec i s.enterHeader := by
  have hplace : s.withFetchWord nbits w = placeFrame (layoutWord nbits w) s := by
    simp only [State.withFetchWord, placeWord, h, hr]
  have hne : layoutWord nbits w ≠ [] := fun hnil => by
    rw [hnil] at h
    cases h
  obtain ⟨hw, -, bs, he, hbs⟩ := decodeInbound_readsFrame s.initLenMode (decodeInbound_of_decodeFrame h hr)
  obtain rfl : layoutWord nbits w = bs := hbs.trans (List.append_nil bs)
  obtain ⟨u, hexec, -⟩ := exec_inbound_emits (s := s.enterHeader) hw hr he rfl
  have hfeed := feed_encode (s := s.enterHeader) hw hr he rfl
  rw [hplace, hexec]
  exact step_placeFrame hne (hfeed.trans hexec)

/-- Settles O53: the step runs the word's instruction, which ENC loads or DEC makes a record of. -/
theorem fetchWordRunsTheTableInstruction : Obligations.FetchWordRunsTheTableInstruction := by
  intro s nbits w i h
  have hdec := decodeTableWord_eq_some h
  refine ⟨fun r hr => ?_, fun hr => ?_⟩
  · rw [step_withFetchWord_request hdec hr]
    refine ⟨rfl, fun hw => ?_⟩
    obtain ⟨fs, he⟩ := encode_of_decodeFrame s.initLenMode hdec
    exact ⟨_, exec_loadFrame rfl (Option.isSome_of_eq_some hr) hw he, rfl⟩
  · rw [step_withFetchWord_frame hdec hr]
    refine ⟨rfl, fun hw => ?_⟩
    obtain ⟨fs, he⟩ := encode_of_decodeFrame s.initLenMode hdec
    exact exec_inbound_emits hw hr he rfl

end Sys2Proof.Machine
end

section
/-! The checksum as a sum of bytes modulo 2 (40_checksum.md R78, R80, R82, R84): order and grouping drop out, equal bytes
cancel in pairs, and every bit of it is a parity. -/

namespace Sys2Proof.Machine

/-! ### Order, grouping, multiplicity (R80) -/

/-- R80, grouping; the empty sequence has the 0x00 of R79, so it may stand on either side. -/
theorem compute_append (a b : List Byte) : compute (a ++ b) = compute a ^^^ compute b := by
  simpa using xor_compute_append 0x00#8 a b

/-- R80, order. -/
theorem compute_perm {s t : List Byte} (h : s.Perm t) : compute s = compute t := by
  induction h with
  | nil => rfl
  | cons b _ ih => rw [compute_cons, compute_cons, ih]
  | swap a b bs => simp only [compute_cons, ← BitVec.xor_assoc, BitVec.xor_comm a b]
  | trans _ _ ihs iht => exact ihs.trans iht

/-- Equal bytes cancel in pairs. -/
theorem compute_eq_zero_of_even_counts {u : List Byte} (h : ∀ b, u.count b % 2 = 0) : compute u = 0x00#8 := by
  match u with
  | [] => rfl
  | b :: bs =>
    have hodd : bs.count b % 2 = 1 := by
      have := h b
      rw [List.count_cons_self] at this
      omega
    have hperm : bs.Perm (b :: bs.erase b) :=
      List.perm_cons_erase (List.count_pos_iff.mp (by omega))
    have heven : ∀ c, (bs.erase b).count c % 2 = 0 := by
      intro c
      have := h c
      rw [(hperm.cons b).count_eq, List.count_cons, List.count_cons] at this
      omega
    have hlen : (bs.erase b).length ≤ bs.length := List.length_erase_le
    calc compute (b :: bs)
      _ = b ^^^ (b ^^^ compute (bs.erase b)) := by rw [compute_cons, compute_perm hperm, compute_cons]
      _ = 0x00#8 := by simp [compute_eq_zero_of_even_counts heven]
termination_by u.length

/-- R80: only each byte's multiplicity modulo 2 matters. The two sequences in a row hold every byte an even number of
times. -/
theorem compute_eq_of_count_mod_two {s t : List Byte} (h : ∀ b, s.count b % 2 = t.count b % 2) :
    compute s = compute t := by
  have heven : ∀ b, (s ++ t).count b % 2 = 0 := by
    intro b
    have := h b
    rw [List.count_append]
    omega
  have hzero := compute_eq_zero_of_even_counts heven
  rwa [compute_append, BitVec.xor_eq_zero_iff] at hzero

/-- Settles O45: order by induction on the permutation, grouping by folding, multiplicity by cancelling equal pairs. -/
theorem checksumIgnoresOrderAndGrouping : Obligations.ChecksumIgnoresOrderAndGrouping :=
  ⟨fun _ _ => compute_perm, fun a b _ _ => compute_append a b, fun _ _ => compute_eq_of_count_mod_two⟩

/-! ### The trailer check (R82) -/

theorem checkTrailer_eq_pass {t e : Byte} : checkTrailer t e = .pass ↔ t = e := by
  obtain ⟨heq, hpass⟩ | ⟨hne, hfail⟩ := checkTrailer_cases t e
  · exact iff_of_true hpass heq
  · exact iff_of_false (by simp [hfail]) hne

theorem checkTrailer_eq_fail_of_ne_pass {t e : Byte} (h : checkTrailer t e ≠ .pass) : checkTrailer t e = .fail := by
  obtain ⟨-, hpass⟩ | ⟨-, hfail⟩ := checkTrailer_cases t e
  · exact absurd hpass h
  · exact hfail

/-- A sequence closed by one more byte folds to 0x00 exactly if that byte is its checksum. -/
theorem compute_concat_eq_zero {s : List Byte} {t : Byte} : compute (s ++ [t]) = 0x00#8 ↔ t = compute s := by
  rw [compute_concat, BitVec.xor_eq_zero_iff, eq_comm]

/-- Settles O46: both forms of the check say that the trailer is the checksum. -/
theorem trailerPassesIffWholeXorIsZero : Obligations.TrailerPassesIffWholeXorIsZero := by
  intro s trailer _
  exact ⟨checkTrailer_eq_pass, checkTrailer_eq_pass.trans compute_concat_eq_zero.symm, checkTrailer_eq_fail_of_ne_pass⟩

/-! ### What the checksum catches (R84) -/

/-- The checksum of the differences is the difference of the checksums. -/
theorem compute_zipWith_xor {s t : List Byte} (h : s.length = t.length) :
    compute (List.zipWith (· ^^^ ·) s t) = compute s ^^^ compute t := by
  induction s generalizing t with
  | nil =>
    obtain rfl := List.eq_nil_of_length_eq_zero h.symm
    rfl
  | cons x s ih =>
    cases t with
    | nil => cases h
    | cons y t =>
      rw [List.zipWith_cons_cons, compute_cons, compute_cons, compute_cons, ih (Nat.succ.inj h)]
      ac_rfl

/-- Bit `k` of the checksum is the parity of the bytes that have bit `k`. -/
theorem getLsbD_compute (bs : List Byte) (k : Nat) :
    (compute bs).getLsbD k = true ↔ bs.countP (fun d => d.getLsbD k) % 2 = 1 := by
  induction bs with
  | nil => simp
  | cons b bs ih =>
    rw [compute_cons, BitVec.getLsbD_xor, List.countP_cons]
    cases hb : b.getLsbD k with
    | false => simpa using ih
    | true =>
      simp only [Bool.true_xor, Bool.not_eq_true', ← Bool.not_eq_true, ih, if_true]
      omega

/-- A change confined to one byte always shows. -/
theorem compute_replace_ne (a b : List Byte) {x y : Byte} (h : x ≠ y) :
    compute (a ++ x :: b) ≠ compute (a ++ y :: b) := by
  rw [compute_append, compute_append, compute_cons, compute_cons, Ne, BitVec.xor_right_inj, BitVec.xor_left_inj]
  exact h

/-- Settles O47: the differences' checksum is the two checksums' XOR, each of its bits is a parity, and one changed byte
remains when the equal bytes around it cancel. -/
theorem whatTheChecksumCatches : Obligations.WhatTheChecksumCatches := by
  refine ⟨fun s t hlen => ⟨?_, fun k _ => getLsbD_compute _ k⟩, fun a b x y => compute_replace_ne a b⟩
  rw [compute_zipWith_xor hlen, BitVec.xor_eq_zero_iff]

/-! ### CHK (R78) -/

/-- R78: CHK puts the checksum of its bytes into the result field. -/
theorem exec_chk (bs : List Byte) (s : State) :
    exec (.chk bs) s = .next { s with chkOut := some (compute bs) } := rfl

/-- Settles O44: on a nonempty sequence the checksum is the fold seeded with the first byte. -/
theorem chkResult : Obligations.ChkResult :=
  fun b bs s => exec_chk (b :: bs) s

end Sys2Proof.Machine
end

section
/-! 41_encoder.md R85 to R94: what becomes of a request on CMD, where one is refused, and the way of a frame from its
acceptance to the TX stream. -/

namespace Sys2Proof.Machine

/-! ### Encoded frames (R86) -/

theorem request_instr_isSome (r : Request) : r.instr.request.isSome = true := by
  cases r <;> rfl

/-- R86: each of the three outbound frames is closed by the checksum of what stands before it. -/
theorem encode_request_eq_withTrailer {m : InitLenMode} {r : Request} {bs : List Byte}
    (h : encode m r.instr = some bs) : ∃ body, bs = withTrailer body := by
  cases r with
  | status => cases h; exact ⟨_, rfl⟩
  | dump code => cases h; exact ⟨_, rfl⟩
  | init f => cases h; exact ⟨_, rfl⟩
  | quit => cases h

/-- Settles O15: the last byte is the trailer, the bytes before it are the body. -/
theorem trailerIsChecksumOfTheRest : Obligations.TrailerIsChecksumOfTheRest := by
  intro m r bs h
  obtain ⟨body, rfl⟩ := encode_request_eq_withTrailer h
  exact ⟨by simp [withTrailer], compute_withTrailer body⟩

/-- 10_state.md R17, 41_encoder.md R94: the frame of an admitted request fits ENC's buffer. -/
theorem encode_request_fits {m : InitLenMode} {r : Request} {bs : List Byte} (hw : r.instr.wellFormed = true)
    (h : encode m r.instr = some bs) : FrameFits bs := by
  cases r with
  | status => cases h; exact encodeStatus_fits
  | dump code => cases h; exact encodeDump_fits code
  | init f => cases h; exact encodeInit_fits m f (of_decide_eq_true hw)
  | quit => cases h

/-! ### A request on CMD (R85, R87, R88) -/

/-- R85: where ENC is not ready, the offer waits. -/
theorem exec_request_of_not_ready {s : State} (h : s.cmdReady = false) (r : Request) : exec r.instr s = .next s := by
  cases r with
  | status | dump => simp [Request.instr, exec, execEncStatus, execEncDump, acceptFrame, h]
  | init f => simp [Request.instr, exec, execEncInit, h]
  | quit => simp [Request.instr, exec, execHostQuit, h]

/-- 43_session_control.md R114: where ENC is ready, HOST.QUIT is taken. -/
theorem exec_quit_of_ready {s : State} (h : s.cmdReady = true) : exec .hostQuit s = .next s.quit :=
  congrArg Host.Outcome.next (if_pos h)

/-- R88: where ENC is ready, an admitted request loads its frame or ends the session. -/
theorem exec_admitted_of_ready {r : Request} {s : State} (h : s.cmdReady = true) (hw : r.instr.wellFormed = true) :
    (∃ bs, exec r.instr s = .next (s.loadFrame bs)) ∨ exec r.instr s = .next s.quit := by
  cases r with
  | status => exact .inl ⟨_, exec_loadFrame h rfl hw rfl⟩
  | dump code => exact .inl ⟨_, exec_loadFrame h rfl hw rfl⟩
  | init f => exact .inl ⟨_, exec_loadFrame h rfl hw rfl⟩
  | quit => exact .inr (exec_quit_of_ready h)

/-- The only request that is not admitted is an over-long Init. -/
theorem overlong_init_of_not_wellFormed {r : Request} (h : r.instr.wellFormed ≠ true) :
    ∃ f, r = .init f ∧ Config.maxTrackLen < f.track.length := by
  cases r with
  | init f => exact ⟨f, rfl, Nat.lt_of_not_le fun hle => h (decide_eq_true hle)⟩
  | status | dump | quit => exact absurd rfl h

/-- R87: where ENC is ready, an over-long Init is refused. -/
theorem exec_overlong_init {f : InitFields} {s : State} (h : s.cmdReady = true)
    (hlen : Config.maxTrackLen < f.track.length) : exec (.encInit f) s = .refused .trackTooLong := by
  show execEncInit f s = _
  rw [execEncInit, if_pos h, if_neg (Nat.not_le_of_lt hlen)]

/-- An admitted request is refused in no state. -/
theorem exec_admitted {r : Request} (hw : r.instr.wellFormed = true) (s : State) : ∃ t, exec r.instr s = .next t := by
  cases h : s.cmdReady with
  | false => exact ⟨s, exec_request_of_not_ready h r⟩
  | true =>
    obtain ⟨bs, e⟩ | e := exec_admitted_of_ready h hw
    · exact ⟨_, e⟩
    · exact ⟨_, e⟩

/-- Settles O8: ready is what the two hypotheses say, and `loadFrame` is what the acceptance step writes. -/
theorem acceptanceStep : Obligations.AcceptanceStep := by
  intro r bs s hidle hrun hw he
  exact exec_loadFrame ((cmdReady_iff s).mpr ⟨hidle, hrun⟩) (request_instr_isSome r) hw he

/-- Settles O9: the offer waits, or ENC goes to TX_SEND with a frame or to TX_CLOSED. -/
theorem cmdTransferOnlyWhenReady : Obligations.CmdTransferOnlyWhenReady := by
  refine fun r s => ⟨fun hnot => ?_, fun hidle hrun hw => ?_⟩
  · exact exec_request_of_not_ready (Bool.eq_false_iff.mpr (mt (cmdReady_iff s).mp hnot)) r
  · obtain ⟨bs, e⟩ | e := exec_admitted_of_ready ((cmdReady_iff s).mpr ⟨hidle, hrun⟩) hw
    · exact ⟨_, e, by simp⟩
    · exact ⟨_, e, by simp⟩

/-- Settles O10: the two sides of MAX_TRACK_LEN. -/
theorem overlongInitRefused : Obligations.OverlongInitRefused :=
  ⟨fun _ s hidle hrun hlen => exec_overlong_init ((cmdReady_iff s).mpr ⟨hidle, hrun⟩) hlen,
    fun _ s hw => exec_admitted hw s⟩

/-! ### What a step refuses (R87) -/

theorem exec_request_eq_refused {r : Request} {s : State} {e : Refusal} (h : exec r.instr s = .refused e) :
    e = .trackTooLong ∧ ∃ f, r = .init f ∧ Config.maxTrackLen < f.track.length ∧ s.cmdReady = true := by
  by_cases hw : r.instr.wellFormed = true
  · obtain ⟨t, ht⟩ := exec_admitted hw s
    simp [ht] at h
  · obtain ⟨f, rfl, hlen⟩ := overlong_init_of_not_wellFormed hw
    cases hready : s.cmdReady with
    | false => simp [exec_request_of_not_ready hready] at h
    | true =>
      have href : exec (Request.init f).instr s = .refused .trackTooLong := exec_overlong_init hready hlen
      exact ⟨Host.Outcome.refused.inj (h.symm.trans href), f, rfl, hlen, rfl⟩

/-- DEC faults at most (log entry 10): a byte is never refused. -/
theorem takeByte_ne_refused (b : Byte) (s : State) (e : Refusal) : takeByte b s ≠ .refused e := by
  unfold takeByte
  cases s.rxState with
  | trailer => obtain ⟨r, -, h⟩ | ⟨-, h⟩ := trailerByte_cases b s <;> simp [h]
  | hdr | pay | evt | idle | emit | emitErr | stopped | failed => nofun

theorem rxStep_ne_refused (a : RxAnswer) (s : State) (e : Refusal) : rxStep a s ≠ .refused e := by
  obtain ⟨-, h⟩ | ⟨-, b, -, h⟩ | ⟨-, -, ph, -, h⟩ := rxStep_cases a s <;> rw [h]
  · nofun
  · exact takeByte_ne_refused b s e
  · nofun

theorem runTurn_eq_refused {u : Turn} {s : State} {e : Refusal} (h : runTurn u s = .refused e) :
    e = .trackTooLong ∧ ∃ f, u = .cmd (.init f) ∧ Config.maxTrackLen < f.track.length ∧ s.cmdReady = true := by
  cases u with
  | cmd r =>
    obtain ⟨he, f, rfl, hlen, hready⟩ := exec_request_eq_refused h
    exact ⟨he, f, rfl, hlen, hready⟩
  | rx a => exact absurd h (rxStep_ne_refused a s e)
  | boundary | encCheck | tx | evt | chk | reset => cases h

/-- Settles O57: taking the turn off the schedule leaves `tx_state` and `running` as they were. -/
theorem onlyAnOverlongInitIsRefused : Obligations.OnlyAnOverlongInitIsRefused := by
  intro s e h
  obtain ⟨he, f, hf, hlen, hready⟩ := runTurn_eq_refused ((step_eq s).symm.trans h)
  obtain ⟨hidle, hrun⟩ := (cmdReady_iff _).mp hready
  exact ⟨he, f, hf, hlen, s.dropTurn_txState ▸ hidle, s.dropTurn_running ▸ hrun⟩

/-! ### Sending (R92) -/

theorem txStep_accept_of_offered {s : State} {b : Byte} (h : s.offered = some b) : txStep .accept s = s.sendByte b := by
  rw [txStep, h]

theorem txStep_err_of_offered {s : State} {b : Byte} (h : s.offered = some b) :
    txStep .err s = raiseTransportError (.tx s.txI) s := by
  rw [txStep, h]

/-- 43_session_control.md R115: ENC's check does nothing outside TX_IDLE. -/
theorem encCheckStep_of_not_idle {s : State} (h : s.txState ≠ .idle) : encCheckStep s = s :=
  if_neg fun ⟨hidle, _⟩ => h hidle

theorem cmdReady_of_not_idle {s : State} (h : s.txState ≠ .idle) : s.cmdReady = false :=
  Bool.eq_false_iff.mpr fun hready =>
    have ⟨hidle, _⟩ := (cmdReady_iff s).mp hready
    h hidle

/-- Settles O11: the byte on offer is `tx_buf[tx_i]`, and outside TX_IDLE there is neither a check nor a request. -/
theorem sendStep : Obligations.SendStep := by
  intro b s hs hlt hb
  have hoff : s.offered = some b := offered_eq_some.mpr ⟨hs, hlt, hb⟩
  have hbusy : s.txState ≠ .idle := by simp [hs]
  refine ⟨?_, ?_, ?_, fun r => ?_⟩
  · simp [runTurn, txStep_accept_of_offered hoff, State.sendByte, hs]
  · simp [runTurn, txStep_err_of_offered hoff]
  · simp [runTurn, encCheckStep_of_not_idle hbusy]
  · exact exec_request_of_not_ready (cmdReady_of_not_idle hbusy) r

/-! ### From the acceptance to the TX stream -/

/-- A step runs the first turn of the schedule and takes it off. -/
theorem step_of_sched {s : State} {u : Turn} {us : List Turn} (h : s.sched = u :: us) :
    step s = runTurn u { s with sched := us } := by
  obtain ⟨hnext, hdrop⟩ := nextTurn_cons h
  rw [step_eq, hnext, hdrop]

/-- R88: the step that takes an admitted request for a frame. -/
theorem step_accepted_request {r : Request} {bs : List Byte} {us : List Turn} {s : State} (hready : s.cmdReady = true)
    (hw : r.instr.wellFormed = true) (he : encode s.initLenMode r.instr = some bs) (hsched : s.sched = .cmd r :: us) :
    step s = .next ({ s with sched := us }.loadFrame bs) := by
  rw [step_of_sched hsched]
  exact exec_loadFrame (s := { s with sched := us }) hready (request_instr_isSome r) hw he

/-- R92: the step that sends the first byte of what is left of a frame. -/
theorem step_accepted_byte {b : Byte} {left : List Byte} {us : List Turn} {s : State} (henc : s.EncOk)
    (hs : s.txState = .send) (hleft : s.txBuf.drop s.txI = b :: left) (hsched : s.sched = .tx .accept :: us) :
    left = s.txBuf.drop (s.txI + 1) ∧ step s = .next ({ s with sched := us }.sendByte b) := by
  obtain ⟨b', hdrop, hsend⟩ := txStep_accept_of_send (s := { s with sched := us }) henc hs
  obtain ⟨rfl, htail⟩ : b = b' ∧ left = s.txBuf.drop (s.txI + 1) := List.cons.inj (hleft.symm.trans hdrop)
  rw [step_of_sched hsched]
  exact ⟨htail, congrArg Host.Outcome.next hsend⟩

/-- R92: as many accepted bytes as are left of a frame in TX_SEND put the rest of it on the TX stream. By induction over
the bytes left: each but the last leaves ENC in TX_SEND with one byte less, the last takes it to TX_IDLE. -/
theorem core_run_send (left : List Byte) (rest : List Turn) (s : State) (henc : s.EncOk) (hs : s.txState = .send)
    (hleft : s.txBuf.drop s.txI = left) (hsched : s.sched = List.replicate left.length (.tx .accept) ++ rest) :
    Sys2Proof.core.run left.length s =
      .next { s with txI := s.txN, txState := .idle, tx := s.tx ++ left, sched := rest } := by
  induction left generalizing s with
  | nil =>
    obtain ⟨b, hdrop, -⟩ := txStep_accept_of_send henc hs
    simp [hleft] at hdrop
  | cons b left ih =>
    obtain ⟨htail, hstep⟩ := step_accepted_byte henc hs hleft hsched
    rw [List.length_cons, core_run_next hstep]
    by_cases hlast : s.txI + 1 = s.txN
    · obtain rfl : left = [] := by
        obtain ⟨hlen, -⟩ := henc
        rw [htail, List.drop_eq_nil_iff]
        omega
      simp [Host.Core.run, State.sendByte, hlast]
    · have hstill : (s.sendByte b).txState = .send := by simp [hlast, hs]
      refine (ih ({ s with sched := List.replicate left.length (Turn.tx .accept) ++ rest }.sendByte b)
        (encOk_sendByte b henc hs) hstill htail.symm rfl).trans ?_
      simp [State.sendByte]

/-- Settles O14: the acceptance step, then the whole frame is left to send. -/
theorem acceptedRequestSendsItsFrame : Obligations.AcceptedRequestSendsItsFrame := by
  intro r bs rest s hidle hrun hw he hsched
  have hstep := step_accepted_request ((cmdReady_iff s).mpr ⟨hidle, hrun⟩) hw he hsched
  rw [core_run_next hstep]
  exact core_run_send bs rest _ (encOk_loadFrame _ (encode_request_fits hw he)) rfl rfl rfl

end Sys2Proof.Machine
end

section
/-! 42_decoder.md R112: whatever TRANSPORT answers, DEC's byte steps come to the whole-frame function. `Gives` says so of
any state within a frame and of the answers still to come; each group of bytes (header, payload, event records, trailer)
has one lemma for the answers that stop or fail in it and one for the answers that fill it. -/

namespace Sys2Proof.Machine

/-- Settles O31: the statement's hypotheses are those of `feed_encode`. -/
theorem byteStepsRunTheFrame : Obligations.ByteStepsRunTheFrame :=
  fun _ _ _ s hr hw he hs hi => feed_encode hw hr he ((atFrameStart_iff s).mpr ⟨hs, hi⟩)

/-! ### Taking answers (R112) -/

/-- What the answers are, by what taking `n` of them comes to. -/
def Taken.Of (n : Nat) (as : List RxAnswer) : Taken → Prop
  | .got bs rest => bs.length = n ∧ as = bs.map .byte ++ rest
  | .failed k => ∃ (bs : List Byte) (rest : List RxAnswer), bs.length = k ∧ k < n ∧ as = bs.map .byte ++ .err :: rest
  | .held => ∃ bs : List Byte, bs.length < n ∧ as = bs.map .byte

theorem takeAnswers_of (n : Nat) (as : List RxAnswer) : (takeAnswers n as).Of n as := by
  induction n, as using takeAnswers.induct with
  | case1 as => exact ⟨rfl, rfl⟩
  | case2 n => exact ⟨[], Nat.succ_pos n, rfl⟩
  | case3 n as => exact ⟨[], as, rfl, Nat.succ_pos n, rfl⟩
  | case4 n b as bs rest h ih =>
    rw [h] at ih
    obtain ⟨hlen, rfl⟩ := ih
    simp only [takeAnswers, h]
    exact ⟨congrArg Nat.succ hlen, rfl⟩
  | case5 n b as k h ih =>
    rw [h] at ih
    obtain ⟨bs, rest, rfl, hlt, rfl⟩ := ih
    simp only [takeAnswers, h]
    exact ⟨b :: bs, rest, rfl, Nat.succ_lt_succ hlt, rfl⟩
  | case6 n b as h ih =>
    rw [h] at ih
    obtain ⟨bs, hlt, rfl⟩ := ih
    simp only [takeAnswers, h]
    exact ⟨b :: bs, Nat.succ_lt_succ hlt, rfl⟩

/-- The buffer that R112 fills from at most as many bytes as it holds begins with them. -/
theorem take_ofFn_getD {n : Nat} {bs : List Byte} (h : bs.length ≤ n) :
    (Vector.ofFn fun i : Fin n => bs.getD i.val 0x00#8).toList.take bs.length = bs := by
  apply List.ext_getElem
  · simpa using h
  · intro i h1 h2
    simp [h2]

theorem toList_ofFn_getD {n : Nat} {bs : List Byte} (h : bs.length = n) :
    (Vector.ofFn fun i : Fin n => bs.getD i.val 0x00#8).toList = bs := by
  have htake := take_ofFn_getD h.le
  rwa [List.take_of_length_le (by simp [h])] at htake

/-! ### What the answers still to come give -/

/-- The record reports a failed read. -/
def Record.failed : Record → Bool
  | .transportError .. => true
  | .ack .. | .status .. | .dump .. | .nak .. | .unrecognized .. => false

/-- R112: how many answers DEC takes for a record. -/
def Record.answers : Record → Nat
  | .ack .. => 3
  | .status .. => 7
  | .dump _ _ _ _ count _ _ _ _ => 7 + 16 * count.toNat
  | .nak .. => 3
  | .unrecognized .. => 2
  | .transportError _ nread => nread + 1

/-- In `t` the record `r` waits on EVT, made from `s` on. -/
structure Waits (s : State) (r : Record) (t : State) : Prop where
  out : t.rxOut = some r
  state : t.rxState = if r.failed then .emitErr else .emit
  counted : t.rxNread + r.failed.toNat = r.answers
  flag : t.running = (!r.failed && s.running)

/-- In `t` DEC has taken `n` bytes more than in `s` and asks for the next one. -/
structure Asks (s : State) (n : Nat) (t : State) : Prop where
  asking : t.asking = true
  out : t.rxOut = s.rxOut
  counted : t.rxNread = s.rxNread + n
  flag : t.running = s.running

/-- From `s` on, the answers `as` come to `res`: a record that waits once the answers it counts beyond those taken before
are used, or none. -/
def Gives (s : State) (as : List RxAnswer) (res : Option FrameResult) : Prop :=
  match res with
  | some r => ∃ n t, n ≤ as.length ∧ r.used = s.rxNread + n ∧ r.used = r.record.answers ∧
      feed (as.take n) s = .next t ∧ Waits s r.record t
  | none => ∃ t, feed as s = .next t ∧ Asks s as.length t

theorem Waits.not_asking {s t : State} {r : Record} (h : Waits s r t) : t.asking = false := by
  refine asking_of_not_reading fun hr => ?_
  cases hf : r.failed <;> simp [State.Reading, h.state, hf] at hr

/-- Answers in two groups, the first one bytes within the frame. -/
theorem Gives.after_bytes {s s' : State} {bs : List Byte} {rest : List RxAnswer} {res : Option FrameResult}
    (h : Gives s' rest res) (hfeed : feed (bs.map .byte) s = .next s') (hn : s'.rxNread = s.rxNread + bs.length)
    (hout : s'.rxOut = s.rxOut) (hrun : s'.running = s.running) : Gives s (bs.map .byte ++ rest) res := by
  cases res with
  | some r =>
    obtain ⟨n, t, hle, hused, hall, ht, hwaits⟩ := h
    refine ⟨bs.length + n, t, by simpa using hle, by omega, hall, ?_, ?_⟩
    · have htake : (bs.map RxAnswer.byte ++ rest).take (bs.length + n) = bs.map .byte ++ rest.take n := by
        rw [← List.length_map (f := RxAnswer.byte) (as := bs), List.take_length_add_append]
      rw [htake, feed_append, hfeed, andThen_next, ht]
    · exact ⟨hwaits.out, hwaits.state, hwaits.counted, by rw [hwaits.flag, hrun]⟩
  | none =>
    obtain ⟨t, ht, hasks⟩ := h
    refine ⟨t, by rw [feed_append, hfeed, andThen_next, ht], hasks.asking, hasks.out.trans hout, ?_, hasks.flag.trans hrun⟩
    rw [hasks.counted, hn, List.length_append, List.length_map, Nat.add_assoc]

/-- The bytes complete a frame: its record waits, and what follows is not taken. -/
theorem gives_record {s t : State} {bs : List Byte} {r : Record} (rest : List RxAnswer)
    (hfeed : feed (bs.map .byte) s = .next t) (hstate : t.rxState = .emit) (hout : t.rxOut = some r)
    (hrun : t.running = s.running) (hok : r.failed = false) (hn : t.rxNread = r.answers)
    (hall : r.answers = s.rxNread + bs.length) :
    Gives s (bs.map .byte ++ rest) (some { record := r, used := s.rxNread + bs.length }) := by
  refine ⟨bs.length, t, by simp, rfl, hall.symm, ?_, hout, by simp [hok, hstate], by simp [hok, hn], by simp [hok, hrun]⟩
  rw [← hfeed, List.take_left' (List.length_map _)]

/-! ### Answers that stop or fail within a group -/

/-- DEC reads a group of `n` bytes in phase `ph`: after fewer of them it asks for the next one. -/
def ReadsGroup (s : State) (n : Nat) (ph : Phase) : Prop :=
  ∀ bs : List Byte, bs.length < n →
    ∃ t, feed (bs.map .byte) s = .next t ∧ Asks s bs.length t ∧ t.rxState.phase = some ph

theorem rxStep_err {s : State} {ph : Phase} (hask : s.asking = true) (hph : s.rxState.phase = some ph) :
    rxStep .err s = .next (raiseTransportError (.rx ph s.rxNread) s) := by
  simp [rxStep, hask, hph]

theorem ReadsGroup.gives_held {s : State} {n : Nat} {ph : Phase} {as : List RxAnswer} (h : ReadsGroup s n ph)
    (ht : takeAnswers n as = .held) : Gives s as none := by
  have hof := takeAnswers_of n as
  rw [ht] at hof
  obtain ⟨bs, hlt, rfl⟩ := hof
  obtain ⟨t, hfeed, hasks, -⟩ := h bs hlt
  exact ⟨t, hfeed, by rwa [List.length_map]⟩

/-- 60_exceptions.md R123: the record names the phase and counts the bytes before the `Err`. -/
theorem ReadsGroup.gives_failed {s : State} {n k : Nat} {ph : Phase} {as : List RxAnswer} (h : ReadsGroup s n ph)
    (ht : takeAnswers n as = .failed k) : Gives s as (readFailed ph (s.rxNread + k)) := by
  have hof := takeAnswers_of n as
  rw [ht] at hof
  obtain ⟨bs, rest, rfl, hlt, rfl⟩ := hof
  obtain ⟨t, hfeed, hasks, hph⟩ := h bs hlt
  have htake : (bs.map RxAnswer.byte ++ .err :: rest).take (bs.length + 1) = bs.map .byte ++ [.err] := by
    rw [← List.length_map (f := RxAnswer.byte) (as := bs), List.take_length_add_append]
    rfl
  refine ⟨bs.length + 1, raiseTransportError (.rx ph t.rxNread) t, by simp, rfl, rfl, ?_, ?_⟩
  · rw [htake, feed_append, hfeed, andThen_next, feed_cons, rxStep_err hasks.asking hph]
    rfl
  · have hn := hasks.counted
    exact ⟨by simp [hn], rfl, by simp [hn, Record.failed, Record.answers], rfl⟩

/-- 42_decoder.md R97, R98. -/
theorem readsGroup_header {s : State} (h : s.atFrameStart = true) (hn : s.rxNread = 0) : ReadsGroup s 2 .header := by
  obtain ⟨hs, hi⟩ := (atFrameStart_iff s).mp h
  intro bs hlt
  match bs, hlt with
  | [], _ => exact ⟨s, rfl, ⟨by simp [State.asking, hs, hi], rfl, rfl, rfl⟩, by rw [hs]; rfl⟩
  | [b], _ =>
    refine ⟨s.headerByte0 b, by simp [rxStep, State.asking, takeByte, hs, hi], ⟨?_, rfl, by simp [hn], rfl⟩, ?_⟩
    · simp [State.asking, hs]
    · simp [hs, RxState.phase]

/-- 42_decoder.md R99. -/
theorem readsGroup_payload {s : State} (hs : s.rxState = .pay) (hi : s.rxIdx = 0) : ReadsGroup s 4 .payload := by
  intro bs hlt
  have hle : bs.length ≤ 3 := by omega
  have hfeed := feed_payload_part (Vector.ofFn fun i => bs.getD i.val 0x00#8) s hs hi bs.length hle
  rw [take_ofFn_getD (by omega)] at hfeed
  exact ⟨_, hfeed, ⟨by simp [State.asking, hs, hle], rfl, rfl, rfl⟩, by simp [hs, RxState.phase]⟩

/-- 42_decoder.md R100. -/
theorem readsGroup_record {s : State} (hs : s.rxState = .evt) (hi : s.rxIdx = 0) (he : s.rxEvi < s.rxCnt.toNat) :
    ReadsGroup s 16 .events := by
  intro bs hlt
  have hle : bs.length ≤ 15 := by omega
  have hfeed := feed_record_part (Vector.ofFn fun i => bs.getD i.val 0x00#8) s hs hi he bs.length hle
  rw [take_ofFn_getD (by omega)] at hfeed
  exact ⟨_, hfeed, ⟨by simp [State.asking, hs, hle, he], rfl, rfl, rfl⟩, by simp [hs, RxState.phase]⟩

/-- 42_decoder.md R102. -/
theorem readsGroup_trailer {s : State} (hs : s.rxState = .trailer) : ReadsGroup s 1 .trailer := by
  intro bs hlt
  obtain rfl : bs = [] := List.length_eq_zero_iff.mp (Nat.lt_one_iff.mp hlt)
  exact ⟨s, rfl, ⟨by simp [State.asking, hs], rfl, rfl, rfl⟩, by rw [hs]; rfl⟩

/-! ### Answers that fill a group -/

theorem gives_wholeTrailer {s : State} {mk : Byte → Record} (hs : s.rxState = .trailer)
    (hrec : ∀ b, s.trailerRecord b = some (mk b)) (hok : ∀ b, (mk b).failed = false)
    (hall : ∀ b, (mk b).answers = s.rxNread + 1) (as : List RxAnswer) :
    Gives s as (wholeTrailer s.rxNread as mk) := by
  have hgroup := readsGroup_trailer hs
  unfold wholeTrailer
  cases ht : takeAnswers 1 as with
  | got bs rest =>
    have hof := takeAnswers_of 1 as
    rw [ht] at hof
    obtain ⟨hlen, rfl⟩ := hof
    obtain ⟨b, rfl⟩ := List.length_eq_one_iff.mp hlen
    exact gives_record rest (feed_trailer hs (hrec b)) rfl rfl rfl (hok b) (hall b).symm (hall b)
  | failed k => exact hgroup.gives_failed ht
  | held => exact hgroup.gives_held ht

/-- 42_decoder.md R100: by induction over the records still to come. What comes after them is given by the state that
their bytes lead to. -/
theorem gives_wholeRecords {n : Nat} {s : State} {cont : List RawEvent → List RxAnswer → Option FrameResult}
    (hs : 0 < n → s.rxState = .evt ∧ s.rxIdx = 0) (he : s.rxEvi + n = s.rxCnt.toNat)
    (hcont : ∀ (rs : List RawEvent) (rest : List RxAnswer) (t : State), rs.length = n →
      feed ((rs.flatMap fun r => r.toList).map .byte) s = .next t → Gives t rest (cont rs rest))
    (as : List RxAnswer) : Gives s as (wholeRecords n s.rxNread as cont) := by
  induction n generalizing s cont as with
  | zero => exact hcont [] as s rfl rfl
  | succ n ih =>
    obtain ⟨hevt, hidx⟩ := hs (Nat.succ_pos n)
    have hlt : s.rxEvi < s.rxCnt.toNat := by omega
    have hgroup := readsGroup_record hevt hidx hlt
    unfold wholeRecords
    cases ht : takeAnswers 16 as with
    | got bs rest =>
      have hof := takeAnswers_of 16 as
      rw [ht] at hof
      obtain ⟨hlen, rfl⟩ := hof
      have hbytes : (Vector.ofFn fun i : Fin 16 => bs.getD i.val 0x00#8).toList = bs := toList_ofFn_getD hlen
      dsimp only
      generalize (Vector.ofFn fun i : Fin 16 => bs.getD i.val 0x00#8) = r at hbytes ⊢
      subst hbytes
      have hfeed := feed_record r s hevt hidx hlt
      refine Gives.after_bytes (ih ?_ ?_ (fun rs rest' t hcount hrs => ?_) rest) hfeed (by rw [hlen]) rfl rfl
      · intro hpos
        have hmore : ¬ s.rxEvi + 1 = s.rxCnt.toNat := by omega
        simp [hmore]
      · show s.rxEvi + 1 + n = s.rxCnt.toNat
        omega
      · refine hcont (r :: rs) rest' t (congrArg Nat.succ hcount) ?_
        rw [List.flatMap_cons, List.map_append, feed_append, hfeed, andThen_next]
        exact hrs
    | failed k => exact hgroup.gives_failed ht
    | held => exact hgroup.gives_held ht

/-! ### The whole frame -/

/-- 42_decoder.md R98, R99: header and payload of a Dump, up to its event records or, without any, its trailer. -/
theorem feed_dump_header_payload {s : State} (h : s.atFrameStart = true) (len : Byte) (q : Quad) :
    ∃ t, feed ((0x82#8 :: len :: q.toList).map .byte) s = .next t ∧ t.rxNread = 6 ∧ t.rxOut = s.rxOut ∧
      t.running = s.running ∧ t.rxEvi + q[2].toNat = t.rxCnt.toNat ∧
      (0 < q[2].toNat → t.rxState = .evt ∧ t.rxIdx = 0) := by
  refine ⟨_, feed_header_payload h (.inr rfl) len q, ?_⟩
  by_cases hzero : q[2] = 0x00#8
  · simp [hzero]
  · simp [hzero]

/-- R112 after the payload of a Dump. -/
theorem gives_dump {s : State} (h : s.atFrameStart = true) (hn : s.rxNread = 0) (len : Byte) (q : Quad)
    (as : List RxAnswer) :
    Gives s ((0x82#8 :: len :: q.toList).map .byte ++ as)
      (wholeRecords q[2].toNat 6 as fun rs as =>
        wholeTrailer (6 + 16 * q[2].toNat) as fun ck =>
          .dump 0x82#8 len q (pkgIdOf q) q[2] (rs.map decodeEvent) ck
            (compute (0x82#8 :: len :: q.toList ++ rs.flatMap fun r => r.toList))
            (checkTrailer ck (compute (0x82#8 :: len :: q.toList ++ rs.flatMap fun r => r.toList)))) := by
  obtain ⟨t, hfeed, hsix, hout, hrun, he, hevt⟩ := feed_dump_header_payload h len q
  rw [← hsix]
  refine Gives.after_bytes (gives_wholeRecords hevt he (fun rs rest u hcount hrs => ?_) as) hfeed
    (by simp [hsix, hn]) hout hrun
  have hbody := feed_dump_body h len q rs hcount
  rw [feed_append, ← List.map_cons, ← List.map_cons, hfeed, andThen_next, hrs] at hbody
  obtain rfl := Host.Outcome.next.inj hbody
  have hcounted : 6 + 16 * q[2].toNat = (((s.readHeader 0x82#8 len).readPayload q).readRecords rs).rxNread := by
    simp [hcount]
  rw [hsix, hcounted, ← readRecords_rxAcc_eq 0x82#8 len q rs s]
  refine gives_wholeTrailer rfl (fun b => rfl) (fun b => rfl) (fun b => ?_) rest
  simp [Record.answers, hcount]
  omega

theorem gives_status {s : State} (h : s.atFrameStart = true) (hn : s.rxNread = 0) (len : Byte) (q : Quad)
    (as : List RxAnswer) :
    Gives s ((0x81#8 :: len :: q.toList).map .byte ++ as)
      (wholeTrailer 6 as fun ck =>
        .status 0x81#8 len q (pkgIdOf q) q[2] (classOf q[2]) ck (compute (0x81#8 :: len :: q.toList))
          (checkTrailer ck (compute (0x81#8 :: len :: q.toList)))) := by
  rw [← readPayload_rxAcc_eq 0x81#8 len q s]
  exact Gives.after_bytes
    (gives_wholeTrailer (s := { (s.readHeader 0x81#8 len).readPayload q with rxState := .trailer }) rfl (fun _ => rfl)
      (fun _ => rfl) (fun _ => rfl) as)
    (feed_header_payload h (.inl rfl) len q) (by simp [hn]) rfl rfl

/-- R112: the answers after the two header bytes `t` and `len`, where `mk` makes the record from the trailer alone. -/
theorem gives_short {s : State} (h : s.atFrameStart = true) (hn : s.rxNread = 0) {t : Byte}
    (ht : t = 0x80#8 ∨ t = 0x8F#8) (len : Byte) {mk : Byte → Record}
    (hrec : ∀ b, (s.readHeader t len).trailerRecord b = some (mk b)) (hok : ∀ b, (mk b).failed = false)
    (hall : ∀ b, (mk b).answers = 3) (as : List RxAnswer) :
    Gives s ([t, len].map .byte ++ as) (wholeTrailer 2 as mk) :=
  Gives.after_bytes
    (gives_wholeTrailer (s := { s.readHeader t len with rxState := .trailer }) rfl hrec hok hall as)
    ((feed_header h t len).trans (congrArg _ (header_short ht len s))) (by simp [hn]) rfl rfl

theorem gives_unrecognized {s : State} (h : s.atFrameStart = true) (hn : s.rxNread = 0) {t : Byte}
    (ht : recognizedType t = false) (len : Byte) (as : List RxAnswer) :
    Gives s ([t, len].map .byte ++ as) (some { record := .unrecognized t len .notChecked, used := 2 }) := by
  have hfeed : feed ([t, len].map .byte) s =
      .next ((s.readHeader t len).waitRecord (.unrecognized t len .notChecked)) :=
    (feed_header h t len).trans (congrArg _ (header_unrecognized ht len s))
  have hgives := gives_record as hfeed rfl rfl rfl rfl rfl (by simp [hn, Record.answers])
  simpa [hn] using hgives

/-- R112: the group of the payload, for the two types that have one. -/
theorem readsGroup_payload_after_header {s : State} (h : s.atFrameStart = true) {t : Byte}
    (ht : t = 0x81#8 ∨ t = 0x82#8) (len : Byte) :
    ∃ s', feed ([t, len].map .byte) s = .next s' ∧ s'.rxNread = 2 ∧ s'.rxOut = s.rxOut ∧ s'.running = s.running ∧
      ReadsGroup s' 4 .payload :=
  ⟨_, (feed_header h t len).trans (congrArg _ (header_payload ht len s)), rfl, rfl, rfl, readsGroup_payload rfl rfl⟩

/-- R112: the byte steps from a first header byte on come to the whole-frame function, group by group. -/
theorem gives_wholeFrame {s : State} (h : s.atFrameStart = true) (hn : s.rxNread = 0) (as : List RxAnswer) :
    Gives s as (wholeFrame as) := by
  have hheader := readsGroup_header h hn
  unfold wholeFrame
  cases ht : takeAnswers 2 as with
  | held => exact hheader.gives_held ht
  | failed k => simpa [hn] using hheader.gives_failed ht
  | got hd rest =>
    have hof := takeAnswers_of 2 as
    rw [ht] at hof
    obtain ⟨hlen, rfl⟩ := hof
    obtain ⟨t, len, rfl⟩ := List.length_eq_two.mp hlen
    simp only [List.getD_cons_zero, List.getD_cons_succ]
    by_cases hrec : recognizedType t = false
    · rw [if_pos hrec]
      exact gives_unrecognized h hn hrec len rest
    rw [if_neg hrec]
    rcases (recognizedType_iff t).mp (Bool.eq_true_of_not_eq_false hrec) with (rfl | rfl) | hlong
    · exact gives_short h hn (.inl rfl) len (fun _ => rfl) (fun _ => rfl) (fun _ => rfl) rest
    · exact gives_short h hn (.inr rfl) len (fun _ => rfl) (fun _ => rfl) (fun _ => rfl) rest
    have hack : t ≠ 0x80#8 := by rcases hlong with rfl | rfl <;> decide
    have hnak : t ≠ 0x8F#8 := by rcases hlong with rfl | rfl <;> decide
    rw [if_neg hack, if_neg hnak]
    obtain ⟨s', hfeed, htwo, hout, hrun, hpayload⟩ := readsGroup_payload_after_header h hlong len
    have hcounted : s'.rxNread = s.rxNread + [t, len].length := by simp [htwo, hn]
    cases hp : takeAnswers 4 rest with
    | held => exact (hpayload.gives_held hp).after_bytes hfeed hcounted hout hrun
    | failed k =>
      have hfailed := hpayload.gives_failed hp
      rw [htwo] at hfailed
      exact hfailed.after_bytes hfeed hcounted hout hrun
    | got pl rest' =>
      have hof := takeAnswers_of 4 rest
      rw [hp] at hof
      obtain ⟨hfour, rfl⟩ := hof
      have hpl : pl = (Vector.ofFn fun i : Fin 4 => pl.getD i.val 0x00#8).toList := (toList_ofFn_getD hfour).symm
      rw [← List.append_assoc, ← List.map_append, hpl]
      rcases hlong with rfl | rfl
      · exact gives_status h hn len _ rest'
      · exact gives_dump h hn len _ rest'

/-- Once a record waits, the answers after those it used are not taken. -/
theorem feed_of_waits {s t : State} {as : List RxAnswer} {n : Nat} {r : Record} (h : feed (as.take n) s = .next t)
    (hwaits : Waits s r t) : feed as s = .next t := by
  rw [← List.take_append_drop n as, feed_append, h, andThen_next, feed_not_asking _ _ hwaits.not_asking]

/-- Settles O32: from the first header byte of a frame on, no answers were used before. -/
theorem byteStepsGiveWholeFrameRecord : Obligations.ByteStepsGiveWholeFrameRecord := by
  intro as s hs hi hn
  have hgives := gives_wholeFrame ((atFrameStart_iff s).mpr ⟨hs, hi⟩) hn as
  cases hres : wholeFrame as with
  | none =>
    rw [hres] at hgives
    obtain ⟨t, hfeed, hasks⟩ := hgives
    exact ⟨t, hfeed, nofun, fun _ => ⟨hasks.asking, hasks.out, by simpa [hn] using hasks.counted⟩⟩
  | some r =>
    rw [hres] at hgives
    obtain ⟨n, t, hle, hused, hall, htake, hwaits⟩ := hgives
    obtain rfl : r.used = n := by simpa [hn] using hused
    refine ⟨t, feed_of_waits htake hwaits, fun r' hr' => ?_, nofun⟩
    cases hr'
    refine ⟨hle, htake, hwaits.out, ?_⟩
    have hstate := hwaits.state
    cases hrec : r.record <;> rw [hrec] at hall hstate <;> exact ⟨hall, hstate⟩

/-! ### Two states at a frame boundary -/

/-- The reading state of a phase. -/
def Phase.rxState : Phase → RxState
  | .header => .hdr
  | .payload => .pay
  | .events => .evt
  | .trailer => .trailer

theorem RxState.eq_of_phase {x : RxState} {ph : Phase} (h : x.phase = some ph) : x = ph.rxState := by
  cases x <;> cases h <;> rfl

theorem phase_of_asking {s : State} (h : s.asking = true) : ∃ ph, s.rxState.phase = some ph := by
  rcases reading_of_asking h with hs | hs | hs | hs <;> exact ⟨_, congrArg RxState.phase hs⟩

/-- Where DEC asks for a byte, the whole-frame function knows in which phase: an `Err` in its place is recorded there. -/
theorem wholeFrame_err_of_asking {s t : State} {as : List RxAnswer} (h : s.atFrameStart = true) (hn : s.rxNread = 0)
    (hfeed : feed as s = .next t) (hask : t.asking = true) :
    ∃ ph, t.rxState = ph.rxState ∧
      (wholeFrame (as ++ [.err])).map FrameResult.record = some (.transportError ph t.rxNread) := by
  obtain ⟨ph, hph⟩ := phase_of_asking hask
  refine ⟨ph, RxState.eq_of_phase hph, ?_⟩
  have herr : feed (as ++ [.err]) s = .next (raiseTransportError (.rx ph t.rxNread) t) := by
    rw [feed_append, hfeed, andThen_next, feed_cons, rxStep_err hask hph]
    rfl
  have hgives := gives_wholeFrame h hn (as ++ [.err])
  cases hres : wholeFrame (as ++ [.err]) with
  | none =>
    rw [hres] at hgives
    obtain ⟨u, hu, hasks⟩ := hgives
    cases herr.symm.trans hu
    exact absurd hasks.asking (by simp [State.asking])
  | some r =>
    rw [hres] at hgives
    obtain ⟨n, u, -, -, -, htake, hwaits⟩ := hgives
    cases herr.symm.trans (feed_of_waits htake hwaits)
    exact hwaits.out.symm

/-- 43_session_control.md R116: DEC's boundary check, and TRANSPORT's answers after it. -/
theorem runTurns_boundary_rx {s : State} (hs : s.rxState = .idle) (hrun : s.running = true) (as : List RxAnswer) :
    runTurns (.boundary :: as.map .rx) s = feed as s.enterHeader := by
  have hrx (t : State) : runTurns (as.map .rx) t = feed as t := by
    induction as generalizing t with
    | nil => rfl
    | cons a as ih =>
      rw [List.map_cons, runTurns_cons, feed_cons]
      exact andThen_congr fun u _ => ih u
  have hboundary : runTurn .boundary s = .next s.enterHeader := by simp [runTurn, boundaryStep, hs, hrun]
  rw [runTurns_cons, hboundary, andThen_next, hrx]

/-- Settles O33: the record, or the byte DEC still asks for, is the whole-frame function's, which reads no register. -/
theorem oldRegistersNeverReachARecord : Obligations.OldRegistersNeverReachARecord := by
  intro as s₁ s₂ t₁ t₂ hs₁ hs₂ hrun₁ hrun₂ hout h₁ h₂
  rw [runTurns_boundary_rx hs₁ hrun₁] at h₁
  rw [runTurns_boundary_rx hs₂ hrun₂] at h₂
  have hrun : s₁.running = s₂.running := hrun₁.trans hrun₂.symm
  have hgives₁ := gives_wholeFrame (s := s₁.enterHeader) rfl rfl as
  have hgives₂ := gives_wholeFrame (s := s₂.enterHeader) rfl rfl as
  cases hres : wholeFrame as with
  | some r =>
    rw [hres] at hgives₁ hgives₂
    obtain ⟨n₁, u₁, -, -, -, htake₁, hwaits₁⟩ := hgives₁
    obtain ⟨n₂, u₂, -, -, -, htake₂, hwaits₂⟩ := hgives₂
    cases h₁.symm.trans (feed_of_waits htake₁ hwaits₁)
    cases h₂.symm.trans (feed_of_waits htake₂ hwaits₂)
    have hcounted := hwaits₁.counted.trans hwaits₂.counted.symm
    exact ⟨hwaits₁.state.trans hwaits₂.state.symm, hwaits₁.out.trans hwaits₂.out.symm, Nat.add_right_cancel hcounted,
      by rw [hwaits₁.flag, hwaits₂.flag]; simp [hrun]⟩
  | none =>
    rw [hres] at hgives₁ hgives₂
    obtain ⟨u₁, hu₁, hasks₁⟩ := hgives₁
    obtain ⟨u₂, hu₂, hasks₂⟩ := hgives₂
    cases h₁.symm.trans hu₁
    cases h₂.symm.trans hu₂
    obtain ⟨ph₁, hst₁, hrec₁⟩ := wholeFrame_err_of_asking rfl rfl h₁ hasks₁.asking
    obtain ⟨ph₂, hst₂, hrec₂⟩ := wholeFrame_err_of_asking rfl rfl h₂ hasks₂.asking
    obtain ⟨rfl, hcounted⟩ : ph₁ = ph₂ ∧ t₁.rxNread = t₂.rxNread := by simpa using hrec₁.symm.trans hrec₂
    exact ⟨hst₁.trans hst₂.symm, (hasks₁.out.trans hout).trans hasks₂.out.symm, hcounted,
      (hasks₁.flag.trans hrun).trans hasks₂.flag.symm⟩

end Sys2Proof.Machine
end

section
/-! 42_decoder.md R104 to R108: what a whole frame's instruction leaves where DEC asks for a first header byte, register by
register, and what becomes of it elsewhere. -/

namespace Sys2Proof.Machine

/-! ### Frames of two or three bytes, and Status -/

/-- Settles O17: the frame is taken, and the checksum of its two header bytes is their XOR. -/
theorem ackFrameRecord : Obligations.AckFrameRecord :=
  fun _ _ s hs hi => if_pos ((atFrameStart_iff s).mpr ⟨hs, hi⟩)

/-- Settles O18: the same for a Nak, whose checksum is its own. -/
theorem nakFrameRecord : Obligations.NakFrameRecord :=
  fun _ _ s hs hi => if_pos ((atFrameStart_iff s).mpr ⟨hs, hi⟩)

/-- Settles O19: the checksum is that of the header and the four payload bytes. -/
theorem statusFrameRecord : Obligations.StatusFrameRecord := by
  intro len q0 q1 q2 q3 ck k s hs hi hk
  have hsum : compute (0x81#8 :: len :: (#v[q0, q1, q2, q3] : Quad).toList) = k := hk.symm
  have hread : (s.readHeader 0x81#8 len).readPayload #v[q0, q1, q2, q3] =
      { s with
        rxType := 0x81#8, rxLen := len, rxAcc := k, rxIdx := 3, rxNread := 6, rxHdr := #v[q0, q1, q2, q3] } := by
    rw [← hsum, ← readPayload_rxAcc_eq 0x81#8 len _ s]
    rfl
  refine (if_pos ((atFrameStart_iff s).mpr ⟨hs, hi⟩)).trans ?_
  rw [hread, hsum]
  rfl

/-- 30_encoding.md R65: a type byte that is none of the four is not recognized. -/
theorem not_recognized_of_ne {t : Byte} (hack : t ≠ 0x80#8) (hstatus : t ≠ 0x81#8) (hdump : t ≠ 0x82#8)
    (hnak : t ≠ 0x8F#8) : recognizedType t = false := by
  simp [recognizedType, hack, hstatus, hdump, hnak]

/-- Settles O21: the frame is taken, as its type byte is none of the recognized four. -/
theorem unrecognizedFrameRecord : Obligations.UnrecognizedFrameRecord := by
  intro t len s hs hi hack hstatus hdump hnak
  have hrec := Bool.eq_false_iff.mp (not_recognized_of_ne hack hstatus hdump hnak)
  exact (if_neg hrec).trans (if_pos ((atFrameStart_iff s).mpr ⟨hs, hi⟩))

/-! ### Dump -/

/-- 40_checksum.md R83: the checksum of all the records' bytes, folded record by record. -/
theorem compute_flatMap_toList (recs : List RawEvent) :
    compute (recs.flatMap fun r => r.toList) = (recs.map fun r => compute r.toList).foldl (· ^^^ ·) 0x00#8 := by
  rw [← compute_eq_foldl]
  induction recs with
  | nil => rfl
  | cons r recs ih => rw [List.flatMap_cons, compute_append, List.map_cons, compute_cons, ih]

/-- Settles O20: the checksum is that of the header, the payload header and the records, and `rx_idx` is that of the last
group of bytes read, the payload header's where the count is 0. -/
theorem dumpFrameRecord : Obligations.DumpFrameRecord := by
  intro len q0 q1 q2 q3 ck k recs s hs hi hcount hk
  have hsum : compute (0x82#8 :: len :: (#v[q0, q1, q2, q3] : Quad).toList ++ recs.flatMap fun r => r.toList) = k := by
    rw [compute_append, compute_flatMap_toList, hk]
    rfl
  have hidx : (if recs.isEmpty then 3 else 0) = if q2 = 0x00#8 then 3 else 0 := by
    have hempty : recs = [] ↔ q2 = 0x00#8 := by
      rw [← List.length_eq_zero_iff, hcount, ← BitVec.toNat_inj]
      rfl
    simp only [List.isEmpty_iff, hempty]
  have hread : ((s.readHeader 0x82#8 len).readPayload #v[q0, q1, q2, q3]).readRecords recs =
      { s with
        rxType := 0x82#8, rxLen := len, rxAcc := k, rxIdx := if q2 = 0x00#8 then 3 else 0
        rxNread := 6 + 16 * q2.toNat, rxHdr := #v[q0, q1, q2, q3], rxCnt := q2, rxEvi := q2.toNat
        rxRec := recs.getLastD s.rxRec, rxEvents := recs.map decodeEvent } := by
    rw [← hsum, ← readRecords_rxAcc_eq 0x82#8 len _ recs s, ← hidx, ← hcount]
    rfl
  have hnread : 6 + 16 * q2.toNat + 1 = 7 + 16 * q2.toNat := by omega
  refine (if_pos hcount).trans ((if_pos ((atFrameStart_iff s).mpr ⟨hs, hi⟩)).trans ?_)
  rw [hread, hsum, ← hnread]
  rfl

/-! ### Where DEC does not take a frame -/

/-- Settles O22: an instruction is refused by the form of its frame, and waits unless DEC is at a first header byte. -/
theorem frameWaitsOrIsRefused : Obligations.FrameWaitsOrIsRefused := by
  refine ⟨fun i m s hr he hw hnot => ?_, fun i m s hr he hw => ?_⟩
  · have hnot : ¬ s.atFrameStart = true := mt (atFrameStart_iff s).mp hnot
    cases i with
    | decAck | decNak | decStatus => exact if_neg hnot
    | decDump len q recs ck => exact (if_pos (by simpa [Instr.wellFormed] using hw)).trans (if_neg hnot)
    | decUnrecognized t len => exact (if_neg (by simpa [Instr.wellFormed] using hw)).trans (if_neg hnot)
    | chk => cases he
    | encStatus | encInit | encDump | hostQuit => cases hr
  · cases i with
    | decDump len q recs ck => exact if_neg (by simpa [Instr.wellFormed] using hw)
    | decUnrecognized t len => exact if_pos (by simpa [Instr.wellFormed] using hw)
    | chk => cases he
    | decAck | decNak | decStatus => cases hw
    | encStatus | encInit | encDump | hostQuit => cases hr

/-! ### An outbound frame on RXD -/

/-- 30_encoding.md R57, R65: an outbound frame begins with a type byte that DEC does not recognize. -/
theorem encode_request_head {m : InitLenMode} {r : Request} {bs : List Byte} (h : encode m r.instr = some bs) :
    ∃ t len rest, bs = t :: len :: rest ∧ recognizedType t = false := by
  cases r with
  | status => cases h; exact ⟨_, _, _, rfl, rfl⟩
  | dump code => cases h; exact ⟨_, _, _, rfl, rfl⟩
  | init f => cases h; exact ⟨_, _, _, encodeInit_eq m f, rfl⟩
  | quit => cases h

/-- Settles O16: two bytes make the UNRECOGNIZED record, and while it waits no byte is taken. -/
theorem loopedBackFrameIsUnrecognized : Obligations.LoopedBackFrameIsUnrecognized := by
  intro m r bs s he hs hi
  obtain ⟨t, len, rest, rfl, hrec⟩ := encode_request_head he
  have hfeed : feed [.byte t, .byte len] s = .next ((s.readHeader t len).waitRecord (.unrecognized t len .notChecked)) := by
    rw [feed_header ((atFrameStart_iff s).mpr ⟨hs, hi⟩), header_unrecognized hrec]
  refine ⟨_, t, len, rfl, rfl, hfeed, rfl, rfl, ?_⟩
  calc feed ([.byte t, .byte len] ++ rest.map .byte) s
    _ = feed (rest.map .byte) ((s.readHeader t len).waitRecord (.unrecognized t len .notChecked)) := by
      rw [feed_append, hfeed, andThen_next]
    _ = _ := feed_not_asking _ _ rfl

end Sys2Proof.Machine
end

section
/-! 42_decoder.md R101, 30_encoding.md R64: the fields of an event record by value. -/

namespace Sys2Proof.Machine

/-- A byte put on top of a value of `n` bits, in a word wide enough for both. -/
theorem toNat_or_byte_shiftLeft {w n : Nat} (a : BitVec w) (b : Byte) (ha : a.toNat < 2 ^ n) (hw : n + 8 ≤ w) :
    (a ||| b.zeroExtend w <<< n).toNat = a.toNat + 2 ^ n * b.toNat := by
  have hfits : b.toNat * 2 ^ n < 2 ^ w :=
    calc b.toNat * 2 ^ n
      _ < 2 ^ 8 * 2 ^ n := Nat.mul_lt_mul_of_pos_right b.isLt (Nat.two_pow_pos n)
      _ = 2 ^ (n + 8) := by rw [Nat.pow_add, Nat.mul_comm]
      _ ≤ 2 ^ w := Nat.pow_le_pow_right Nat.two_pos hw
  rw [BitVec.toNat_or, BitVec.toNat_shiftLeft, BitVec.toNat_setWidth_of_le (by omega), Nat.shiftLeft_eq,
    Nat.mod_eq_of_lt hfits, Nat.or_comm, ← Nat.shiftLeft_eq, ← Nat.shiftLeft_add_eq_or_of_lt ha, Nat.shiftLeft_eq,
    Nat.add_comm, Nat.mul_comm]

theorem le16_toNat (lo hi : Byte) : (le16 lo hi).toNat = lo.toNat + 256 * hi.toNat := by
  have hlo : (lo.zeroExtend 16).toNat = lo.toNat := BitVec.toNat_setWidth_of_le (by omega)
  exact (toNat_or_byte_shiftLeft _ hi (hlo ▸ lo.isLt) (by omega)).trans (by rw [hlo]; rfl)

theorem le32_toNat (b0 b1 b2 b3 : Byte) :
    (le32 b0 b1 b2 b3).toNat = b0.toNat + 256 * b1.toNat + 65536 * b2.toNat + 16777216 * b3.toNat := by
  have h0 : (b0.zeroExtend 32).toNat = b0.toNat := BitVec.toNat_setWidth_of_le (by omega)
  have h1 := toNat_or_byte_shiftLeft (n := 8) (b0.zeroExtend 32) b1 (h0 ▸ b0.isLt) (by omega)
  have h2 := toNat_or_byte_shiftLeft (n := 16) _ b2 (by rw [h1]; omega) (by omega)
  have h3 := toNat_or_byte_shiftLeft (n := 24) _ b3 (by rw [h2, h1]; omega) (by omega)
  rw [le32, h3, h2, h1, h0]
  rfl

/-- Settles O23: each field by its offset, the year and the data by value. -/
theorem eventFieldsAtTheirOffsets : Obligations.EventFieldsAtTheirOffsets :=
  fun _ => ⟨rfl, rfl, rfl, le16_toNat _ _, rfl, rfl, rfl, rfl, rfl, rfl, le32_toNat _ _ _ _⟩

end Sys2Proof.Machine
end

section
/-! 42_decoder.md R111, 30_encoding.md R66: the length byte of an inbound frame says nothing about where the frame ends. -/

namespace Sys2Proof

open Sys2Proof.Machine

theorem decodeTrailer_map_snd (mk mk' : Byte → Instr) (bs : List Byte) :
    (decodeTrailer mk bs).map Prod.snd = (decodeTrailer mk' bs).map Prod.snd := by
  cases bs <;> rfl

theorem decodeStatusTail_map_snd (len len' : Byte) (bs : List Byte) :
    (decodeStatusTail len bs).map Prod.snd = (decodeStatusTail len' bs).map Prod.snd := by
  unfold decodeStatusTail
  split <;> rfl

theorem decodeDumpTail_map_snd (len len' : Byte) (bs : List Byte) :
    (decodeDumpTail len bs).map Prod.snd = (decodeDumpTail len' bs).map Prod.snd := by
  unfold decodeDumpTail
  split
  · split <;> rfl
  · rfl

/-- Settles O25: the type byte chooses what reads the rest, and the length byte only goes into the instruction. -/
theorem lengthByteSizesNothing : Obligations.LengthByteSizesNothing := by
  intro t len len' rest
  unfold decodeInbound
  dsimp only
  split
  · exact decodeTrailer_map_snd _ _ rest
  split
  · exact decodeTrailer_map_snd _ _ rest
  split
  · exact decodeStatusTail_map_snd len len' rest
  split
  · exact decodeDumpTail_map_snd len len' rest
  · rfl

end Sys2Proof
end

section
/-! 42_decoder.md R97, R98, R103, 60_exceptions.md R123, R125: the header bytes, an `Err` in their place, and the
hand-overs. -/

namespace Sys2Proof.Machine

/-- 42_decoder.md R97. -/
theorem rxStep_header0 {s : State} (hs : s.rxState = .hdr) (hi : s.rxIdx = 0) (b : Byte) :
    rxStep (.byte b) s = .next (s.headerByte0 b) := by
  simp [rxStep, State.asking, takeByte, hs, hi]

/-- 42_decoder.md R98. -/
theorem rxStep_header1 {s : State} (hs : s.rxState = .hdr) (hi : s.rxIdx = 1) (b : Byte) :
    rxStep (.byte b) s = .next (s.headerByte1 b) := by
  simp [rxStep, State.asking, takeByte, hs, hi]

/-- 42_decoder.md R98: a type byte with a trailer alone. -/
theorem headerByte1_of_short {s : State} (ht : s.rxType = 0x80#8 ∨ s.rxType = 0x8F#8) (b : Byte) :
    s.headerByte1 b = { s with rxLen := b, rxAcc := s.rxAcc ^^^ b, rxNread := 2, rxState := .trailer } :=
  if_pos ht

/-- 42_decoder.md R98: a type byte with a payload. -/
theorem headerByte1_of_payload {s : State} (ht : s.rxType = 0x81#8 ∨ s.rxType = 0x82#8) (b : Byte) :
    s.headerByte1 b = { s with rxLen := b, rxAcc := s.rxAcc ^^^ b, rxNread := 2, rxState := .pay, rxIdx := 0 } := by
  have hshort : ¬ (s.rxType = 0x80#8 ∨ s.rxType = 0x8F#8) := by rcases ht with ht | ht <;> simp [ht]
  exact (if_neg hshort).trans (if_pos ht)

/-- 42_decoder.md R98, R108: a type byte that DEC does not know. -/
theorem headerByte1_of_unrecognized {s : State} (ht : recognizedType s.rxType = false) (b : Byte) :
    s.headerByte1 b =
      { s with
        rxLen := b, rxAcc := s.rxAcc ^^^ b, rxNread := 2, rxState := .emit
        rxOut := some (.unrecognized s.rxType b .notChecked) } := by
  obtain ⟨hack, hnak, hstatus, hdump⟩ := ne_of_not_recognized ht
  exact (if_neg (not_or.mpr ⟨hack, hnak⟩)).trans (if_neg (not_or.mpr ⟨hstatus, hdump⟩))

/-- 60_exceptions.md R123: an `Err` in the place of a header byte. -/
theorem rxStep_err_header {s : State} (hs : s.rxState = .hdr) (hi : s.rxIdx ≤ 1) :
    rxStep .err s = .next (raiseTransportError (.rx .header s.rxNread) s) :=
  rxStep_err (by simp [State.asking, hs, hi]) (congrArg RxState.phase hs)

/-- Settles O27: header byte 1 by the three groups of type bytes. -/
theorem headerBytesAndDispatch : Obligations.HeaderBytesAndDispatch := by
  refine ⟨fun b s hs hi => ⟨rxStep_header0 hs hi b, fun hn => ?_⟩,
    fun b s hs hi => ⟨fun ht => ?_, fun ht => ?_, fun hack hstatus hdump hnak => ?_, fun hn => ?_⟩⟩
  · exact hn ▸ rxStep_err_header hs (by omega)
  · exact (rxStep_header1 hs hi b).trans (congrArg _ (headerByte1_of_short ht b))
  · exact (rxStep_header1 hs hi b).trans (congrArg _ (headerByte1_of_payload ht b))
  · have hrec := not_recognized_of_ne hack hstatus hdump hnak
    exact (rxStep_header1 hs hi b).trans (congrArg _ (headerByte1_of_unrecognized hrec b))
  · exact hn ▸ rxStep_err_header hs (by omega)

theorem evtStep_of_emit {s : State} {r : Record} (hs : s.rxState = .emit) (hout : s.rxOut = some r) :
    evtStep s = s.handOver r := by
  simp [evtStep, hs, hout]

theorem evtStep_of_emitErr {s : State} {r : Record} (hs : s.rxState = .emitErr) (hout : s.rxOut = some r) :
    evtStep s = s.handOverError r := by
  simp [evtStep, hs, hout]

/-- Settles O29: until the hand-over DEC is neither at a frame boundary nor in a reading state. -/
theorem handOverToHost : Obligations.HandOverToHost := by
  intro r s hout
  refine ⟨fun hs => congrArg _ (evtStep_of_emit hs hout), fun hs => congrArg _ (evtStep_of_emitErr hs hout), fun hs => ?_⟩
  have hidle : s.rxState ≠ .idle := by rcases hs with hs | hs <;> simp [hs]
  have hask : s.asking = false := asking_of_not_reading (by rcases hs with hs | hs <;> simp [State.Reading, hs])
  refine ⟨congrArg _ (if_neg hidle), fun a => by simp [runTurn, rxStep, hask], fun bs => ?_⟩
  rw [runTurns_rxLine, feed_not_asking _ s hask]

end Sys2Proof.Machine
end

section
/-! 42_decoder.md R102, 60_exceptions.md R121: a step faults only at a trailer whose type byte has none, and the invariant
rules that out. -/

namespace Sys2Proof.Machine

theorem trailerRecord_isSome {s : State} (h : recognizedType s.rxType = true) (b : Byte) :
    ∃ r, s.trailerRecord b = some r := by
  unfold State.trailerRecord
  rcases (recognizedType_iff _).mp h with (ht | ht) | ht | ht <;> simp [ht]

theorem takeByte_ne_fault {s : State} (h : s.DecShape) (b : Byte) (e : Fault) : takeByte b s ≠ .fault e := by
  unfold takeByte
  cases hs : s.rxState with
  | trailer =>
    obtain ⟨-, htype, -⟩ := (decShape_of_trailer hs).mp h
    obtain ⟨r, hr⟩ := trailerRecord_isSome htype b
    simp [trailerByte, hr]
  | hdr | pay | evt | idle | emit | emitErr | stopped | failed => nofun

theorem rxStep_ne_fault {s : State} (h : s.DecShape) (a : RxAnswer) (e : Fault) : rxStep a s ≠ .fault e := by
  obtain ⟨-, hstep⟩ | ⟨-, b, -, hstep⟩ | ⟨-, -, ph, -, hstep⟩ := rxStep_cases a s <;> rw [hstep]
  · nofun
  · exact takeByte_ne_fault h b e
  · nofun

/-- A request is taken, waits or is refused. -/
theorem exec_request_ne_fault (r : Request) (s : State) (e : Fault) : exec r.instr s ≠ .fault e := by
  by_cases hw : r.instr.wellFormed = true
  · obtain ⟨t, ht⟩ := exec_admitted hw s
    simp [ht]
  · obtain ⟨f, rfl, hlen⟩ := overlong_init_of_not_wellFormed hw
    cases hready : s.cmdReady with
    | false => simp [exec_request_of_not_ready hready]
    | true => simp [Request.instr, exec_overlong_init hready hlen]

theorem runTurn_ne_fault {s : State} (h : s.DecShape) (u : Turn) (e : Fault) : runTurn u s ≠ .fault e := by
  cases u with
  | cmd r => exact exec_request_ne_fault r s e
  | rx a => exact rxStep_ne_fault h a e
  | boundary | encCheck | tx | evt | chk | reset => nofun

/-- Settles O56: taking the turn off the schedule leaves DEC's registers as they were. -/
theorem invariantStatesNeverFault : Obligations.InvariantStatesNeverFault := by
  intro s hinv e
  obtain ⟨hshape, -⟩ := hinv.dropTurn
  rw [step_eq]
  exact runTurn_ne_fault hshape s.nextTurn e

end Sys2Proof.Machine
end

section
/-! 43_session_control.md R114 to R120, 60_exceptions.md R130: HOST.QUIT, the two checks of `running`, and what becomes
of the agents once it is cleared. Nothing sets it again but RESET; a frame under way on either side is not touched. -/

namespace Sys2Proof.Machine

/-! ### The two checks (R115, R116) -/

theorem encCheckStep_of_cleared {s : State} (hs : s.txState = .idle) (hrun : s.running = false) :
    encCheckStep s = s.closeEnc :=
  if_pos ⟨hs, hrun⟩

theorem boundaryStep_of_running {s : State} (hs : s.rxState = .idle) (hrun : s.running = true) :
    boundaryStep s = s.enterHeader := by
  rw [boundaryStep, if_pos hs, if_pos hrun]

theorem boundaryStep_of_cleared {s : State} (hs : s.rxState = .idle) (hrun : s.running = false) :
    boundaryStep s = s.stopDec := by
  rw [boundaryStep, if_pos hs, hrun, if_neg Bool.false_ne_true]

theorem boundaryStep_of_not_idle {s : State} (hs : s.rxState ≠ .idle) : boundaryStep s = s :=
  if_neg hs

theorem evtStep_of_stopped {s : State} (hs : s.rxState = .stopped) : evtStep s = s := by
  rw [evtStep, hs]

theorem rxStep_of_stopped {s : State} (hs : s.rxState = .stopped) (a : RxAnswer) : rxStep a s = .next s := by
  have hask : s.asking = false := asking_of_not_reading (by simp [State.Reading, hs])
  simp [rxStep, hask]

/-- R116: RX_STOPPED is terminal. ENC's turns do not touch DEC, and none of DEC's own finds anything to do. -/
theorem runTurn_keeps_stopped {u : Turn} {s t : State} (hs : s.rxState = .stopped) (hu : u ≠ .reset)
    (h : runTurn u s = .next t) : t.rxState = .stopped := by
  have of_sameDec {t : State} (ht : s.SameDec t ∧ t.evt = s.evt) : t.rxState = .stopped := by
    obtain ⟨⟨hst, -⟩, -⟩ := ht
    exact hst.trans hs
  cases u with
  | boundary => cases h; rwa [boundaryStep_of_not_idle (by simp [hs])]
  | encCheck => cases h; exact of_sameDec (encCheckStep_sameDec s)
  | cmd r => exact of_sameDec (exec_request_sameDec h)
  | tx a => cases h; exact of_sameDec (txStep_sameDec a s)
  | rx a =>
    cases (rxStep_of_stopped hs a).symm.trans h
    exact hs
  | evt => cases h; rwa [evtStep_of_stopped hs]
  | chk bs => cases h; exact hs
  | reset => exact absurd rfl hu

/-- Settles O35: the check's two branches. -/
theorem encClosesOnceRunningIsClear : Obligations.EncClosesOnceRunningIsClear :=
  fun _ => ⟨fun ⟨hs, hrun⟩ => congrArg _ (encCheckStep_of_cleared hs hrun), fun h => congrArg _ (if_neg h)⟩

/-- Settles O36: the check's three branches, and RX_STOPPED under every turn. -/
theorem frameBoundaryCheck : Obligations.FrameBoundaryCheck :=
  fun _ => ⟨fun hs hrun => congrArg _ (boundaryStep_of_running hs hrun),
    fun hs hrun => congrArg _ (boundaryStep_of_cleared hs hrun),
    fun hs => congrArg _ (boundaryStep_of_not_idle hs),
    fun hs _ _ hu h => runTurn_keeps_stopped hs hu h⟩

/-! ### HOST.QUIT (R114, R118) -/

/-- Settles O34: ENC is ready on CMD, or the offer waits. -/
theorem quitClearsRunning : Obligations.QuitClearsRunning := by
  refine fun s => ⟨fun hs hrun => exec_quit_of_ready ((cmdReady_iff s).mpr ⟨hs, hrun⟩), fun hnot => ?_⟩
  exact exec_request_of_not_ready (Bool.eq_false_iff.mpr (mt (cmdReady_iff s).mp hnot)) .quit

/-- Settles O38: after the quit the check finds `running` cleared; before it, the check has let DEC into a frame, and
the quit leaves DEC there. -/
theorem quitAndBoundaryRace : Obligations.QuitAndBoundaryRace := by
  intro s hrx htx hrun
  have quit_runs {u : State} (hu : u.txState = .idle) (hurun : u.running = true) :
      runTurn (.cmd .quit) u = .next u.quit :=
    exec_quit_of_ready ((cmdReady_iff u).mpr ⟨hu, hurun⟩)
  refine ⟨⟨s.quit.stopDec, ?_, rfl, rfl⟩, s.enterHeader.quit, ?_, rfl, rfl, rfl, rfl⟩
  · rw [runTurns_cons, quit_runs htx hrun, andThen_next]
    exact congrArg Host.Outcome.next (boundaryStep_of_cleared (s := s.quit) hrx rfl)
  · have hboundary : runTurn .boundary s = .next s.enterHeader := congrArg _ (boundaryStep_of_running hrx hrun)
    rw [runTurns_cons, hboundary, andThen_next, runTurns_cons,
      quit_runs (u := s.enterHeader) htx hrun, andThen_next, runTurns_nil]

/-! ### DEC in a frame (R117) -/

/-- DEC's byte steps do not read the session flag. -/
theorem feed_stopIf (as : List RxAnswer) (c : Bool) (s : State) :
    feed as (s.stopIf c) = andThen (feed as s) fun t => .next (t.stopIf c) := by
  induction as generalizing s with
  | nil => rfl
  | cons a as ih =>
    rw [feed_cons, feed_cons, rxStep_stopIf, andThen_assoc, andThen_assoc]
    exact andThen_congr fun t _ => ih t

/-- Nor does HOST's acceptance of a record. -/
theorem evtStep_stopIf (c : Bool) (s : State) : evtStep (s.stopIf c) = (evtStep s).stopIf c := by
  have hs : (s.stopIf c).rxState = s.rxState := rfl
  have hout : (s.stopIf c).rxOut = s.rxOut := rfl
  unfold evtStep
  rw [hs, hout]
  split <;> rfl

/-- Settles O37: clearing `running` is `stopIf true`. -/
theorem quitDoesNotInterruptDec : Obligations.QuitDoesNotInterruptDec :=
  fun bs s => ⟨feed_stopIf (bs.map .byte) true s, congrArg _ (evtStep_stopIf true s)⟩

/-! ### Nothing sets `running` again (R120) -/

/-- An answer on RXD leaves the session flag, or clears it (60_exceptions.md R123). -/
theorem rxStep_keeps_cleared {a : RxAnswer} {s t : State} (hrun : s.running = false) (h : rxStep a s = .next t) :
    t.running = false := by
  obtain ⟨-, e⟩ | ⟨-, b, -, e⟩ | ⟨-, -, ph, -, e⟩ := rxStep_cases a s <;> rw [e] at h
  · cases h
    exact hrun
  · obtain ⟨-, hsame⟩ := takeByte_frame h
    exact hsame.trans hrun
  · cases h
    rfl

/-- R120 for one turn: everything but RESET leaves the session flag or clears it. -/
theorem runTurn_keeps_cleared {u : Turn} {s t : State} (hu : u ≠ .reset) (hrun : s.running = false)
    (h : runTurn u s = .next t) : t.running = false := by
  cases u with
  | boundary =>
    cases h
    obtain ⟨-, -, e⟩ | ⟨-, -, e⟩ | ⟨-, e⟩ := boundaryStep_cases s <;> rw [e] <;> exact hrun
  | encCheck =>
    cases h
    obtain ⟨-, e⟩ | ⟨-, e⟩ := encCheckStep_cases s <;> rw [e] <;> exact hrun
  | cmd r =>
    obtain rfl | ⟨buf, rfl⟩ | rfl := exec_request_cases h
    · exact hrun
    · exact hrun
    · rfl
  | tx a =>
    cases h
    obtain ⟨-, e⟩ | ⟨b, -, ⟨-, e⟩ | ⟨-, e⟩⟩ := txStep_cases a s <;> rw [e]
    · exact hrun
    · exact hrun
    · rfl
  | rx a => exact rxStep_keeps_cleared hrun h
  | evt =>
    cases h
    obtain ⟨r, -, -, e⟩ | ⟨r, -, -, e⟩ | e := evtStep_cases s <;> rw [e] <;> exact hrun
  | chk bs =>
    cases h
    exact hrun
  | reset => exact absurd rfl hu

/-- Settles O39, by induction over the turns. -/
theorem runningIsNeverSetAgain : Obligations.RunningIsNeverSetAgain := by
  intro us
  induction us with
  | nil =>
    intro s t _ hrun h
    cases h
    exact hrun
  | cons u us ih =>
    intro s t hall hrun h
    obtain ⟨hu, hus⟩ := List.forall_mem_cons.mp hall
    obtain ⟨s', h1, h2⟩ := andThen_eq_next h
    exact ih s' t hus (runTurn_keeps_cleared hu hrun h1) h2

/-! ### After an error on the other side (60_exceptions.md R130) -/

/-- 41_encoder.md R92: as many accepted bytes as are left of a frame put the rest of it on the TX stream and take ENC to
TX_IDLE; in TX_IDLE nothing is left. By induction over their number. -/
theorem runTurns_accept_rest {n : Nat} {s : State} (henc : s.EncOk) (hs : s.txState = .send ∨ s.txState = .idle)
    (hn : s.txN - s.txI = n) :
    runTurns (List.replicate n (.tx .accept)) s =
      .next { s with txI := s.txN, txState := .idle, tx := s.tx ++ s.txBuf.drop s.txI } := by
  induction n generalizing s with
  | zero =>
    obtain ⟨hlen, hle, -, -, hsend, hidle⟩ := henc
    have hst : s.txState = .idle := hs.resolve_left fun h => by have := hsend h; omega
    have hi : s.txI = s.txN := hidle (.inl hst)
    have hdrop : s.txBuf.drop s.txI = [] := List.drop_eq_nil_iff.mpr (by omega)
    cases s
    simp_all
  | succ n ih =>
    have ⟨_, _, _, _, _, hidle⟩ := henc
    have hst : s.txState = .send := hs.resolve_right fun h => by have := hidle (.inl h); omega
    obtain ⟨b, hdrop, hstep⟩ := txStep_accept_of_send henc hst
    have hs' : (s.sendByte b).txState = .send ∨ (s.sendByte b).txState = .idle := by
      rw [State.sendByte_txState, hst]
      split <;> simp
    rw [List.replicate_succ, runTurns_cons, runTurn, hstep, andThen_next,
      ih (encOk_sendByte b henc hst) hs' (by simp; omega), hdrop]
    simp [State.sendByte]

/-- Settles O40: ENC sends what is left and its check closes it; DEC's check stops it. -/
theorem errorOnOneSideStopsTheOther : Obligations.ErrorOnOneSideStopsTheOther := by
  refine ⟨fun s henc hrun hs => ?_, fun s hs hrun => ?_⟩
  · rw [runTurns_append, runTurns_accept_rest henc hs rfl, andThen_next]
    exact ⟨_, congrArg Host.Outcome.next (encCheckStep_of_cleared rfl hrun), rfl, rfl⟩
  · exact ⟨_, congrArg Host.Outcome.next (boundaryStep_of_cleared hs hrun), rfl⟩

end Sys2Proof.Machine
end

section
/-! 60_exceptions.md R121 to R125: the error classes of the records, the TransportError entry on both sides, and the data
errors, after which the session goes on. -/

namespace Sys2Proof.Machine

/-! ### The error classes (R121) -/

/-- R121: what a record reports is settled by its kind and, where it has a checksum, by its outcome. -/
theorem Record.cause_cases (r : Record) :
    r.kind = .transportError ∧ r.outcome = none ∧ r.cause = some .transportRx ∨
      r.kind = .unrecognized ∧ r.cause = some .unrecognizedFrameType ∨
      ∃ o, r.outcome = some o ∧ r.cause = if o = .fail then some .checksumMismatch else none := by
  cases r with
  | transportError ph n => exact .inl ⟨rfl, rfl, rfl⟩
  | unrecognized t len o => exact .inr (.inl ⟨rfl, rfl⟩)
  | ack | status | dump | nak => exact .inr (.inr ⟨_, rfl, by simp [Record.cause, Record.kind, Record.outcome]⟩)

theorem Record.cause_of_outcome {r : Record} {o : ChkOutcome} (ho : r.outcome = some o) (hk : r.kind ≠ .unrecognized) :
    r.cause = if o = .fail then some .checksumMismatch else none := by
  obtain ⟨-, hnone, -⟩ | ⟨hun, -⟩ | ⟨o', ho', hcause⟩ := r.cause_cases
  · simp [hnone] at ho
  · exact absurd hun hk
  · obtain rfl : o' = o := Option.some.inj (ho'.symm.trans ho)
    exact hcause

theorem Record.cause_ne_protocolShape (r : Record) : r.cause ≠ some .protocolShape := by
  obtain ⟨-, -, hcause⟩ | ⟨-, hcause⟩ | ⟨o, -, hcause⟩ := r.cause_cases <;> rw [hcause]
  · nofun
  · nofun
  · split <;> nofun

/-- R121: class 1 stands on TRANSPORT_ERROR records alone. -/
theorem Record.cause_ne_transportRx {r : Record} (hk : r.kind ≠ .transportError) : r.cause ≠ some .transportRx := by
  obtain ⟨herr, -, -⟩ | ⟨-, hcause⟩ | ⟨o, -, hcause⟩ := r.cause_cases
  · exact absurd herr hk
  · simp [hcause]
  · rw [hcause]
    split <;> nofun

theorem Cause.fatal_iff (c : Cause) : c.fatal = true ↔ c = .transportRx ∨ c = .transportTx := by
  cases c <;> simp [Cause.fatal]

/-- Settles O59: a record with a checksum reports its outcome, the two other kinds their own class. -/
theorem errorClassesOfRecords : Obligations.ErrorClassesOfRecords :=
  ⟨fun _ _ => rfl, fun _ _ _ => rfl, fun _ ho hk => Record.cause_of_outcome ho hk,
    fun _ ho hk => Record.cause_of_outcome ho hk, Record.cause_ne_protocolShape, Cause.fatal_iff, rfl, rfl, rfl, rfl, rfl⟩

/-! ### An `Err` on RXD (R123) -/

/-- Settles O28: within its index range a reading state asks for a byte, and each has its own phase. -/
theorem transportErrorOnRead : Obligations.TransportErrorOnRead := by
  rintro ph s (⟨hs, hi, rfl⟩ | ⟨hs, hi, rfl⟩ | ⟨hs, hi, he, rfl⟩ | ⟨hs, rfl⟩)
  · exact rxStep_err_header hs hi
  · exact rxStep_err (by simp [State.asking, hs, hi]) (congrArg RxState.phase hs)
  · exact rxStep_err (by simp [State.asking, hs, hi, he]) (congrArg RxState.phase hs)
  · exact rxStep_err (by simp [State.asking, hs]) (congrArg RxState.phase hs)

/-! ### Turns that find nothing to do at ENC -/

theorem State.SameEnc.refl (s : State) : s.SameEnc s := ⟨rfl, rfl, rfl, rfl⟩

/-- 41_encoder.md R92: outside TX_SEND no byte is on offer. -/
theorem offered_of_not_send {s : State} (h : s.txState ≠ .send) : s.offered = none :=
  if_neg fun ⟨hsend, _⟩ => h hsend

theorem txStep_of_not_offered {s : State} (h : s.offered = none) (a : TxAnswer) : txStep a s = s := by
  rw [txStep, h]

/-- A turn leaves ENC and the TX stream alone if ENC is not about to close, an offer on CMD would wait, and an answer on
TXD would meet no byte. -/
theorem runTurn_sameEnc {u : Turn} {s t : State} (hu : u ≠ .reset) (hcheck : encCheckStep s = s)
    (hcmd : ∀ r, u = .cmd r → s.cmdReady = false) (htx : ∀ a, u = .tx a → s.offered = none)
    (h : runTurn u s = .next t) : s.SameEnc t ∧ t.tx = s.tx := by
  cases u with
  | boundary => cases h; exact boundaryStep_sameEnc s
  | encCheck =>
    cases h
    rw [hcheck]
    exact ⟨.refl s, rfl⟩
  | cmd r =>
    cases (exec_request_of_not_ready (hcmd r rfl) r).symm.trans h
    exact ⟨.refl s, rfl⟩
  | tx a =>
    cases h
    rw [txStep_of_not_offered (htx a rfl) a]
    exact ⟨.refl s, rfl⟩
  | rx a => exact (rxStep_frame h).sameEnc
  | evt => cases h; exact evtStep_sameEnc s
  | chk bs => cases h; exact ⟨.refl s, rfl⟩
  | reset => exact absurd rfl hu

/-! ### An `Err` on TXD (R124) -/

/-- R129: TX_FAILED is terminal, with nothing more on the TX stream. -/
theorem runTurn_of_failed {u : Turn} {s t : State} (hs : s.txState = .failed) (hu : u ≠ .reset)
    (h : runTurn u s = .next t) : s.SameEnc t ∧ t.tx = s.tx := by
  have hidle : s.txState ≠ .idle := by simp [hs]
  exact runTurn_sameEnc hu (encCheckStep_of_not_idle hidle) (fun _ _ => cmdReady_of_not_idle hidle)
    (fun _ _ => offered_of_not_send (by simp [hs])) h

theorem runTurns_of_failed {us : List Turn} {s t : State} (hs : s.txState = .failed) (hus : ∀ u ∈ us, u ≠ .reset)
    (h : runTurns us s = .next t) : s.SameEnc t ∧ t.tx = s.tx := by
  induction us generalizing s with
  | nil => cases h; exact ⟨.refl _, rfl⟩
  | cons u us ih =>
    obtain ⟨hu, hus⟩ := List.forall_mem_cons.mp hus
    obtain ⟨s', h1, h2⟩ := andThen_eq_next h
    obtain ⟨hsame, htx⟩ := runTurn_of_failed hs hu h1
    have ⟨hst, _⟩ := hsame
    obtain ⟨hsame', htx'⟩ := ih (hst.trans hs) hus h2
    exact ⟨hsame.trans hsame', htx'.trans htx⟩

/-- Settles O12: the entry is what the send step does on an `Err`, and TX_FAILED lasts. -/
theorem transportErrorOnSend : Obligations.TransportErrorOnSend := by
  intro b s hs hlt hb
  have hoff : s.offered = some b := offered_eq_some.mpr ⟨hs, hlt, hb⟩
  refine ⟨_, congrArg Host.Outcome.next (txStep_err_of_offered hoff), rfl, rfl, rfl, rfl, fun us u hus h => ?_⟩
  obtain ⟨⟨hst, -, -, hi⟩, htx⟩ := runTurns_of_failed rfl hus h
  exact ⟨hst, htx, hi⟩

/-! ### Data errors (R122) -/

/-- DEC, gone from `s` to `t`, waits on EVT with a frame's record, and nothing outside DEC has changed. -/
structure RecordWaits (s t : State) (r : Record) : Prop where
  state : t.rxState = .emit
  record : t.rxOut = some r
  kind : r.kind ≠ .transportError
  frame : SameOutsideDec s t
  running : t.running = s.running

/-- 42_decoder.md R104 to R108: a whole frame, whatever its trailer and its type byte, ends with a record of its own
kind. -/
theorem exec_inbound_recordWaits {m : InitLenMode} {i : Instr} {s : State} (hr : i.request = none)
    (he : (encode m i).isSome = true) (hw : i.wellFormed = true) (h : s.atFrameStart = true) :
    ∃ t r, exec i s = .next t ∧ RecordWaits s t r := by
  cases i with
  | decAck | decNak | decStatus => exact ⟨_, _, if_pos h, rfl, rfl, nofun, by simp [SameOutsideDec], rfl⟩
  | decDump len q recs ck =>
    have hcount : recs.length = q[2].toNat := by simpa [Instr.wellFormed] using hw
    exact ⟨_, _, (if_pos hcount).trans (if_pos h), rfl, rfl, nofun, by simp [SameOutsideDec], rfl⟩
  | decUnrecognized t len =>
    have ht : ¬ recognizedType t = true := by simpa [Instr.wellFormed] using hw
    exact ⟨_, _, (if_neg ht).trans (if_pos h), rfl, rfl, nofun, by simp [SameOutsideDec], rfl⟩
  | chk bs => cases he
  | encStatus | encInit | encDump | hostQuit => cases hr

/-- Settles O26: the frame leaves its record on EVT, and the hand-over takes DEC to the frame boundary. -/
theorem dataErrorsDoNotStopTheSession : Obligations.DataErrorsDoNotStopTheSession := by
  intro i m s hr he hw hs hi
  obtain ⟨t, r, hexec, hwaits⟩ := exec_inbound_recordWaits hr he hw ((atFrameStart_iff s).mpr ⟨hs, hi⟩)
  obtain ⟨hst, hbuf, hn, htxi, htx, hevt, -⟩ := hwaits.frame
  exact ⟨t, r, t.handOver r, hexec, hwaits.record, Record.cause_ne_transportRx hwaits.kind, r.cause_ne_protocolShape,
    congrArg _ (evtStep_of_emit hwaits.state hwaits.record), rfl, rfl, congrArg (· ++ [r]) hevt, hwaits.running, hst, hbuf,
    htxi, hn, htx⟩

end Sys2Proof.Machine
end

section
/-! 60_exceptions.md R137: a hold lasts until its collaborator's turn or RESET. -/

namespace Sys2Proof.Machine

/-! ### What the holds are -/

theorem decHold_eq_rxByte (s : State) : s.decHold = some .rxByte ↔ s.Reading := by
  unfold State.decHold State.Reading
  cases s.rxState <;> simp

theorem decHold_eq_emit (s : State) : s.decHold = some .emit ↔ s.rxState = .emit ∨ s.rxState = .emitErr := by
  unfold State.decHold
  cases s.rxState <;> simp

theorem encHold_eq_txByte (s : State) : s.encHold = some .txByte ↔ s.txState = .send := by
  unfold State.encHold
  cases s.txState <;> cases s.running <;> simp

/-- 41_encoder.md R85: ENC waits for a request where it is ready on CMD. -/
theorem encHold_eq_cmd (s : State) : s.encHold = some .cmd ↔ s.cmdReady = true := by
  rw [cmdReady_iff]
  unfold State.encHold
  cases s.txState <;> cases s.running <;> simp

theorem State.SameDec.decHold_eq {s t : State} (h : s.SameDec t) : t.decHold = s.decHold := by
  obtain ⟨hst, -⟩ := h
  unfold State.decHold
  rw [hst]

/-! ### DEC's holds -/

theorem State.SameDec.refl (s : State) : s.SameDec s := by simp [State.SameDec]

/-- A turn leaves DEC and the records handed over alone if DEC is not at a frame boundary, an answer on RXD would meet no
transfer, and HOST would find no record. -/
theorem runTurn_sameDec {u : Turn} {s t : State} (hu : u ≠ .reset) (hidle : s.rxState ≠ .idle)
    (hrx : ∀ a, u = .rx a → s.asking = false) (hevt : u = .evt → evtStep s = s) (h : runTurn u s = .next t) :
    s.SameDec t ∧ t.evt = s.evt := by
  cases u with
  | boundary =>
    cases h
    rw [boundaryStep_of_not_idle hidle]
    exact ⟨.refl s, rfl⟩
  | encCheck => cases h; exact encCheckStep_sameDec s
  | cmd r => exact exec_request_sameDec h
  | tx a => cases h; exact txStep_sameDec a s
  | rx a =>
    have hstay : rxStep a s = .next s := by simp [rxStep, hrx a rfl]
    cases hstay.symm.trans h
    exact ⟨.refl s, rfl⟩
  | evt =>
    cases h
    rw [hevt rfl]
    exact ⟨.refl s, rfl⟩
  | chk bs => cases h; exact ⟨.refl s, rfl⟩
  | reset => exact absurd rfl hu

/-- 20_memory.md R39: in a reading state no record waits for HOST. -/
theorem evtStep_of_reading {s : State} (h : s.Reading) : evtStep s = s := by
  obtain ⟨r, hs, -⟩ | ⟨r, hs, -⟩ | e := evtStep_cases s
  · simp [State.Reading, hs] at h
  · simp [State.Reading, hs] at h
  · exact e

theorem runTurn_of_reading {u : Turn} {s t : State} (hs : s.Reading) (hu : u ≠ .reset) (hrx : ∀ a, u ≠ .rx a)
    (h : runTurn u s = .next t) : s.SameDec t ∧ t.evt = s.evt := by
  have hidle : s.rxState ≠ .idle := fun hidle => by simp [State.Reading, hidle] at hs
  exact runTurn_sameDec hu hidle (fun a ha => absurd ha (hrx a)) (fun _ => evtStep_of_reading hs) h

theorem runTurn_of_emitting {u : Turn} {s t : State} (hs : s.rxState = .emit ∨ s.rxState = .emitErr) (hu : u ≠ .reset)
    (hevt : u ≠ .evt) (h : runTurn u s = .next t) : s.SameDec t ∧ t.evt = s.evt := by
  have hidle : s.rxState ≠ .idle := by rcases hs with hs | hs <;> simp [hs]
  have hask : s.asking = false := asking_of_not_reading (by rcases hs with hs | hs <;> simp [State.Reading, hs])
  exact runTurn_sameDec hu hidle (fun _ _ => hask) (fun he => absurd he hevt) h

/-! ### ENC's holds -/

/-- R123: with no byte on offer, the one turn but CMD's and RESET that writes the session flag is an `Err` on RXD. -/
theorem runTurn_running {u : Turn} {s t : State} (hu : u ≠ .reset) (hcmd : ∀ r, u ≠ .cmd r) (hoff : s.offered = none)
    (h : runTurn u s = .next t) : t.running = s.running ∨ u = .rx .err ∧ t.running = false := by
  cases u with
  | boundary =>
    cases h
    obtain ⟨-, -, e⟩ | ⟨-, -, e⟩ | ⟨-, e⟩ := boundaryStep_cases s <;> rw [e] <;> exact .inl rfl
  | encCheck =>
    cases h
    obtain ⟨-, e⟩ | ⟨-, e⟩ := encCheckStep_cases s <;> rw [e] <;> exact .inl rfl
  | cmd r => exact absurd rfl (hcmd r)
  | tx a =>
    cases h
    rw [txStep_of_not_offered hoff a]
    exact .inl rfl
  | rx a =>
    have h : rxStep a s = .next t := h
    obtain ⟨-, e⟩ | ⟨-, b, -, e⟩ | ⟨-, rfl, ph, -, e⟩ := rxStep_cases a s <;> rw [e] at h
    · cases h
      exact .inl rfl
    · obtain ⟨-, hsame⟩ := takeByte_frame h
      exact .inl hsame
    · cases h
      exact .inr ⟨rfl, rfl⟩
  | evt =>
    cases h
    obtain ⟨r, -, -, e⟩ | ⟨r, -, -, e⟩ | e := evtStep_cases s <;> rw [e] <;> exact .inl rfl
  | chk bs => cases h; exact .inl rfl
  | reset => exact absurd rfl hu

/-- 43_session_control.md R115: while ENC is ready its check does nothing, and only an `Err` on RXD ends the wait. -/
theorem runTurn_of_cmdReady {u : Turn} {s t : State} (hs : s.cmdReady = true) (hu : u ≠ .reset) (hcmd : ∀ r, u ≠ .cmd r)
    (h : runTurn u s = .next t) :
    (t.cmdReady = true ∨ u = .rx .err ∧ t.running = false) ∧ s.SameEnc t ∧ t.tx = s.tx := by
  obtain ⟨hidle, hrun⟩ := (cmdReady_iff s).mp hs
  have hoff : s.offered = none := offered_of_not_send (by simp [hidle])
  have hcheck : encCheckStep s = s := if_neg (by simp [hrun])
  obtain ⟨hsame, htx⟩ := runTurn_sameEnc hu hcheck (fun r hr => absurd hr (hcmd r)) (fun _ _ => hoff) h
  have ⟨hst, _⟩ := hsame
  refine ⟨(runTurn_running hu hcmd hoff h).imp_left fun hkept => ?_, hsame, htx⟩
  exact (cmdReady_iff t).mpr ⟨hst.trans hidle, hkept.trans hrun⟩

/-- Settles O41: each hold is a condition on its agent's registers, and the turns left find nothing to do there. -/
theorem holdsWaitForTheirCollaborator : Obligations.HoldsWaitForTheirCollaborator := by
  intro u s t hu h
  refine ⟨fun hold hrx => ?_, fun hold hevt => ?_, fun hold htx => ?_, fun hold hcmd => ?_⟩
  · obtain ⟨hsame, hkept⟩ := runTurn_of_reading ((decHold_eq_rxByte s).mp hold) hu hrx h
    exact ⟨hsame.decHold_eq.trans hold, hsame, hkept⟩
  · obtain ⟨hsame, hkept⟩ := runTurn_of_emitting ((decHold_eq_emit s).mp hold) hu hevt h
    exact ⟨hsame.decHold_eq.trans hold, hsame, hkept⟩
  · have hsend : s.txState = .send := (encHold_eq_txByte s).mp hold
    obtain ⟨hkept, hsame⟩ := runTurn_of_quiet ⟨hu, htx⟩ h
    have ⟨hst, _⟩ := hsame hsend
    exact ⟨(encHold_eq_txByte t).mpr (hst.trans hsend), hsame hsend, hkept⟩
  · rw [encHold_eq_cmd] at hold ⊢
    exact runTurn_of_cmdReady hold hu hcmd h

end Sys2Proof.Machine
end

section
/-! 70_reset_and_hazards.md R138 to R140: RESET, the only way out of the terminal states, and DEC's first step after it. -/

namespace Sys2Proof.Machine

/-! ### The terminal states (60_exceptions.md R129, R137) -/

/-- In TX_CLOSED and TX_FAILED ENC has nothing to do: it is past its check, takes no request and offers no byte. -/
theorem runTurn_of_enc_terminal {u : Turn} {s t : State} (hs : s.txState = .closed ∨ s.txState = .failed)
    (hu : u ≠ .reset) (h : runTurn u s = .next t) : s.SameEnc t ∧ t.tx = s.tx := by
  have hidle : s.txState ≠ .idle := by rcases hs with hs | hs <;> simp [hs]
  have hsend : s.txState ≠ .send := by rcases hs with hs | hs <;> simp [hs]
  exact runTurn_sameEnc hu (encCheckStep_of_not_idle hidle) (fun _ _ => cmdReady_of_not_idle hidle)
    (fun _ _ => offered_of_not_send hsend) h

/-- 42_decoder.md R103, 60_exceptions.md R125: a record is handed over in RX_EMIT and RX_EMIT_ERR alone. -/
theorem evtStep_of_not_emitting {s : State} (hemit : s.rxState ≠ .emit) (herr : s.rxState ≠ .emitErr) :
    evtStep s = s := by
  obtain ⟨r, hs, -⟩ | ⟨r, hs, -⟩ | e := evtStep_cases s
  · exact absurd hs hemit
  · exact absurd hs herr
  · exact e

/-- In RX_STOPPED and RX_FAILED DEC has nothing to do: it is past its check, asks for no byte and hands over no record. -/
theorem runTurn_of_dec_terminal {u : Turn} {s t : State} (hs : s.rxState = .stopped ∨ s.rxState = .failed)
    (hu : u ≠ .reset) (h : runTurn u s = .next t) : s.SameDec t ∧ t.evt = s.evt := by
  have hidle : s.rxState ≠ .idle := by rcases hs with hs | hs <;> simp [hs]
  have hask : s.asking = false := asking_of_not_reading (by rcases hs with hs | hs <;> simp [State.Reading, hs])
  have hevt : evtStep s = s := by apply evtStep_of_not_emitting <;> rcases hs with hs | hs <;> simp [hs]
  exact runTurn_sameDec hu hidle (fun _ _ => hask) (fun _ => hevt) h

/-- Settles O3: in a terminal state each agent keeps all its registers. -/
theorem onlyResetLeavesTerminalStates : Obligations.OnlyResetLeavesTerminalStates := by
  intro u s t hu h
  refine ⟨fun hs => ?_, fun hs => ?_⟩
  · obtain ⟨⟨hst, -⟩, htx⟩ := runTurn_of_enc_terminal hs hu h
    exact ⟨hst, htx⟩
  · obtain ⟨⟨hst, -, -, -, -, -, -, -, -, -, -, hnread, -⟩, hevt⟩ := runTurn_of_dec_terminal hs hu h
    exact ⟨hst, hnread, hevt⟩

/-! ### RESET and what comes after it -/

theorem runTurn_reset (s : State) : runTurn .reset s = .next (resetBlock s) := rfl

/-- Settles O2: field by field, each register has its value in the state after reset. -/
theorem resetTurnFromAnyState : Obligations.ResetTurnFromAnyState := by
  intro s
  refine ⟨resetBlock s, runTurn_reset s, ?_⟩
  simp [State.reset]

/-- Settles O4: RESET leaves DEC at the frame boundary with `running` set and ENC ready on CMD; DEC's check finds it so and
does not touch ENC. -/
theorem firstStepsAfterReset : Obligations.FirstStepsAfterReset := by
  intro s
  have hready : (resetBlock s).cmdReady = true := rfl
  have hboundary : boundaryStep (resetBlock s) = (resetBlock s).enterHeader := boundaryStep_of_running rfl rfl
  have hheld : (resetBlock s).enterHeader.encHold = some .cmd := (encHold_eq_cmd _).mpr hready
  have hreading : (resetBlock s).enterHeader.Reading := .inl rfl
  exact ⟨resetBlock s, (resetBlock s).enterHeader, runTurn_reset s, (encHold_eq_cmd _).mpr hready, rfl,
    congrArg Host.Outcome.next hboundary, rfl, rfl, (decHold_eq_rxByte _).mpr hreading, hheld⟩

end Sys2Proof.Machine
end
